-- ==== Sys2Proof/Word.lean ====
section
/-! DEFINITION. The plainest data of the model: bytes, tables with a fixed number of like things, and the
16-bit saturating count that most counters of the part are. -/

namespace Sys2Proof

/-- One byte of a frame, or a TAG (R187). -/
abbrev Byte := BitVec 8

/-- Put `x` at place `i` of a table. -/
def put {n : Nat} {α : Type} (v : Vector α n) (i : Fin n) (x : α) : Vector α n := v.set i.val x i.isLt

/-- A count that is 16 bits wide and saturating (R95, R119, R162, R181, R186). -/
def bump16 (n : Nat) : Nat := if n < 65535 then n + 1 else n

end Sys2Proof
end

