-- ==== Sys2Proof/Syntax.lean ====
section
/-! DEFINITION. The commands of the part: one constructor of `Instr` for each row of spec/opcode_table.json.
A request's numbers (bells, slots, minutes, …) are those its frame carries, so they may lie outside their range:
the owner's rule refuses or clamps them. An event names the object it reaches. -/

namespace Sys2Proof

/-- Stations 1, 2, 3 and their links LK1, LK2, LK3 (00_scope 4.1), counted from 0. -/
abbrev Station := Fin 3
/-- Bells B1 … B12 (00_scope 4.1), counted from 0. -/
abbrev BellNo := Fin 12
/-- Dials DIAL1 … DIAL4, counted from 0. -/
abbrev DialNo := Fin 4
/-- Swing drives SD1 … SD6, counted from 0. -/
abbrev DriveNo := Fin 6
/-- Flood circuits FL1 … FL8, counted from 0. -/
abbrev CircuitNo := Fin 8
/-- Tune slots T0 … T15. -/
abbrev SlotNo := Fin 16
/-- Schedule entries 0 … 95. -/
abbrev EntryNo := Fin 96

/-- A calendar date (R1, R8). -/
structure Date where
  year : Nat
  month : Nat
  day : Nat
  deriving DecidableEq, Repr

/-- A month-day (R148). -/
structure MonthDay where
  month : Nat
  day : Nat
  deriving DecidableEq, Repr

/-- An occurrence of a weekday in a month (R6): 1 … 4, or LAST. -/
inductive Occurrence where
  | nth (n : Nat)
  | last
  deriving DecidableEq, Repr

/-- The DST rule record (R6); as a request's body its numbers may lie outside their ranges (R7). -/
structure DstRule where
  enabled : Bool
  startMonth : Nat
  startOcc : Occurrence
  startDay : Nat
  startMin : Nat
  endMonth : Nat
  endOcc : Occurrence
  endDay : Nat
  endMin : Nat
  offset : Nat
  deriving DecidableEq, Repr

/-- Polarity of a dial pulse, and what is known of the last one (R24). -/
inductive Polarity where
  | pos | neg | unknown
  deriving DecidableEq, Repr

/-- Direction of a swing motor and of a bell's motion (06). -/
inductive Direction where
  | forward | reverse
  deriving DecidableEq, Repr

/-- Count mode of the strike plan (R82). -/
inductive CountMode where
  | twelve | single
  deriving DecidableEq, Repr

/-- What an INSTALL WRITE naming a dial carries (R25). -/
structure DialInstall where
  present : Bool
  step : Nat
  syncFitted : Bool
  autoCorrect : Bool
  width : Nat
  fast : Nat
  hold : Nat
  deriving DecidableEq, Repr

/-- What an INSTALL WRITE naming a hammer carries (R73). -/
structure HammerInstall where
  fitted : Bool
  sensor : Bool
  width : Nat
  recovery : Nat
  deriving DecidableEq, Repr

/-- What an INSTALL WRITE naming a drive carries (R124): the assigned bell's number or none, and six settings. -/
structure DriveInstall where
  bell : Option Nat
  deadTime : Nat
  kickTime : Nat
  target : Nat
  rest : Nat
  settle : Nat
  brake : Bool
  deriving DecidableEq, Repr

/-- What an INSTALL WRITE naming a circuit carries (R166). -/
structure CircuitInstall where
  present : Bool
  restrike : Nat
  fbPresent : Bool
  deriving DecidableEq, Repr

/-- The strike plan as a STRIKE PLAN WRITE carries it (R82). -/
structure PlanBody where
  hourBell : Nat
  hourStrike : Bool
  mode : CountMode
  interval : Nat
  lateLimit : Nat
  slot15 : Option Nat
  slot30 : Option Nat
  slot45 : Option Nat
  slot00 : Option Nat
  gap : Nat
  deriving DecidableEq, Repr

/-- One step as TUNE STEPS carries it (R105): bell numbers and a length in eighth-beats. -/
structure StepBody where
  bells : List Nat
  length : Nat
  deriving DecidableEq, Repr

/-- A trigger as a request carries it (R148, R175); `other` is an unknown trigger kind. -/
inductive TriggerBody where
  | time (minute : Nat)
  | dusk (offset : Int)
  | dawn (offset : Int)
  | other (kind : Nat)
  deriving DecidableEq, Repr

/-- An action as SCHEDULE WRITE carries it (R148); `other` is an unknown action kind. -/
inductive ActionBody where
  | tune (slot repeats : Nat)
  | toll (bell count interval : Nat)
  | swing (bells : List Nat) (duration : Nat)
  | other (kind : Nat)
  deriving DecidableEq, Repr

/-- A schedule entry as SCHEDULE WRITE carries it (R149). -/
structure EntryBody where
  enabled : Bool
  trigger : TriggerBody
  days : BitVec 7
  window : Option (MonthDay × MonthDay)
  oneShot : Option Date
  action : ActionBody
  deriving DecidableEq, Repr

/-- A quiet window (R160); as a request's body its minutes may lie outside 0 … 1439. -/
structure QuietWindow where
  enabled : Bool
  start : Nat
  stop : Nat
  days : BitVec 7
  hours : Bool
  quarters : Bool
  scheduled : Bool
  deriving DecidableEq, Repr

/-- A flood plan entry as FLOOD PLAN WRITE carries it (R175). -/
structure FloodPlanBody where
  enabled : Bool
  circuits : BitVec 8
  days : BitVec 7
  window : Option (MonthDay × MonthDay)
  on : TriggerBody
  off : TriggerBody
  deriving DecidableEq, Repr

/-- One entry of the dusk/dawn table, in standard minutes (R173). -/
structure SunPair where
  dusk : Nat
  dawn : Nat
  deriving DecidableEq, Repr

/-- The expiry a FLOOD FORCE carries (R176). -/
inductive ExpiryBody where
  | minutes (n : Nat)
  | untilChange
  deriving DecidableEq, Repr

/-- A station's rights set (R193). -/
structure Rights where
  time : Bool
  program : Bool
  ring : Bool
  light : Bool
  install : Bool
  deriving DecidableEq, Repr

/-- A watch target as WATCH SET carries it (R196); `other` is an unknown target kind. -/
inductive TargetBody where
  | entry (i : Nat)
  | bell (n : Nat)
  | circuit (n : Nat)
  | dial (n : Nat)
  | other (kind : Nat)
  deriving DecidableEq, Repr

/-- A watch mode as WATCH SET carries it (R196); `other` is an unknown mode. -/
inductive ModeBody where
  | fire
  | change
  | other (mode : Nat)
  deriving DecidableEq, Repr

/-- The requests of R190's table with what each carries. INSTALL WRITE (0x60) has one constructor for each target
class, and one for a class that is unknown. -/
inductive Request where
  | timeSet (date : Date) (secs : Nat)
  | timeRead
  | dstRuleWrite (rule : DstRule)
  | dstRuleRead
  | restart
  | factoryClear
  | dialSet (dial position : Nat) (known : Bool) (polarity : Option Polarity)
  | dialStop (dial : Nat)
  | dialRun (dial : Nat)
  | dialRead (dial : Nat)
  | bellClaim (bell : Nat)
  | release (bell : Nat)
  | keepalive
  | bellRead (bell : Nat)
  | frameRead
  | stationUnbar (station : Nat)
  | hammerClear (bell : Nat)
  | hammerTest (bell : Nat)
  | handStrike (bell delay : Nat)
  | toll (bell count interval : Nat)
  | tollStop
  | strikePlanWrite (plan : PlanBody)
  | strikePlanRead
  | countersSnapshot (clear : Bool)
  | countersRead (part : Nat)
  | hammerRead (bell : Nat)
  | engineRead
  | tuneBegin (slot : Nat) (name : List Nat) (tempo total : Nat)
  | tuneSteps (slot offset : Nat) (steps : List StepBody)
  | tuneEnd (slot : Nat)
  | tuneAbort (slot : Nat)
  | tuneRead (slot offset : Nat)
  | play (slot repeats : Nat)
  | tuneStop
  | playerRead
  | swingStart (bell : Nat) (duration : Option Nat)
  | swingStop (bell : Nat)
  | jog (bell : Nat) (dir : Direction) (duration : Nat)
  | swingRead (drive : Nat)
  | scheduleWrite (index : Nat) (entry : EntryBody)
  | scheduleDelete (index : Nat)
  | scheduleRead (index : Nat)
  | scheduleStatus
  | quietWrite (index : Nat) (window : QuietWindow)
  | quietRead (index : Nat)
  | floodForce (circuit : Nat) (level : Bool) (expiry : ExpiryBody)
  | floodClear (circuit : Nat)
  | floodRead (circuit : Nat)
  | floodStatus
  | floodPlanWrite (index : Nat) (entry : FloodPlanBody)
  | floodPlanRead (index : Nat)
  | duskTableWrite (first : Nat) (entries : List SunPair)
  | duskTableRead
  | gateRead
  | installWriteDial (dial : Nat) (rec : DialInstall)
  | installWriteBell (bell : Nat) (present : Bool)
  | installWriteFrame (keepMax barLimit : Nat)
  | installWriteHammer (bell : Nat) (rec : HammerInstall)
  | installWritePlayer (waitLimit : Nat)
  | installWriteDrive (drive : Nat) (rec : DriveInstall)
  | installWriteSchedule (catchUp : Nat)
  | installWriteCircuit (circuit : Nat) (rec : CircuitInstall)
  | installWriteGate (stagger : Nat)
  | installWriteLink (link : Nat) (enabled : Bool)
  | installWriteOther (cls : Nat)
  | permitWrite (station : Nat) (rights : Rights)
  | permitRead
  | watchSet (slot : Nat) (target : TargetBody) (mode : ModeBody)
  | watchClear (slot : Nat)
  | watchRead
  | statusRead
  deriving DecidableEq, Repr

/-- What every request frame carries beside its request: the station's link, the TAG (R187), and the level of the
INSTALL KEY input at the moment the frame arrives (R193). -/
structure Head where
  station : Station
  tag : Byte
  key : Bool
  deriving DecidableEq, Repr

/-- A byte as the receiver gets it: its value, and whether its stop bit is there (R188). -/
structure RxByte where
  value : Byte
  stopOk : Bool
  deriving DecidableEq, Repr

/-- The commands: one constructor for each row of spec/opcode_table.json. -/
inductive Instr where
  | timeSet (h : Head) (date : Date) (secs : Nat)
  | timeRead (h : Head)
  | dstRuleWrite (h : Head) (rule : DstRule)
  | dstRuleRead (h : Head)
  | restart (h : Head)
  | factoryClear (h : Head)
  | dialSet (h : Head) (dial position : Nat) (known : Bool) (polarity : Option Polarity)
  | dialStop (h : Head) (dial : Nat)
  | dialRun (h : Head) (dial : Nat)
  | dialRead (h : Head) (dial : Nat)
  | bellClaim (h : Head) (bell : Nat)
  | release (h : Head) (bell : Nat)
  | keepalive (h : Head)
  | bellRead (h : Head) (bell : Nat)
  | frameRead (h : Head)
  | stationUnbar (h : Head) (station : Nat)
  | hammerClear (h : Head) (bell : Nat)
  | hammerTest (h : Head) (bell : Nat)
  | handStrike (h : Head) (bell delay : Nat)
  | toll (h : Head) (bell count interval : Nat)
  | tollStop (h : Head)
  | strikePlanWrite (h : Head) (plan : PlanBody)
  | strikePlanRead (h : Head)
  | countersSnapshot (h : Head) (clear : Bool)
  | countersRead (h : Head) (part : Nat)
  | hammerRead (h : Head) (bell : Nat)
  | engineRead (h : Head)
  | tuneBegin (h : Head) (slot : Nat) (name : List Nat) (tempo total : Nat)
  | tuneSteps (h : Head) (slot offset : Nat) (steps : List StepBody)
  | tuneEnd (h : Head) (slot : Nat)
  | tuneAbort (h : Head) (slot : Nat)
  | tuneRead (h : Head) (slot offset : Nat)
  | play (h : Head) (slot repeats : Nat)
  | tuneStop (h : Head)
  | playerRead (h : Head)
  | swingStart (h : Head) (bell : Nat) (duration : Option Nat)
  | swingStop (h : Head) (bell : Nat)
  | jog (h : Head) (bell : Nat) (dir : Direction) (duration : Nat)
  | swingRead (h : Head) (drive : Nat)
  | scheduleWrite (h : Head) (index : Nat) (entry : EntryBody)
  | scheduleDelete (h : Head) (index : Nat)
  | scheduleRead (h : Head) (index : Nat)
  | scheduleStatus (h : Head)
  | quietWrite (h : Head) (index : Nat) (window : QuietWindow)
  | quietRead (h : Head) (index : Nat)
  | floodForce (h : Head) (circuit : Nat) (level : Bool) (expiry : ExpiryBody)
  | floodClear (h : Head) (circuit : Nat)
  | floodRead (h : Head) (circuit : Nat)
  | floodStatus (h : Head)
  | floodPlanWrite (h : Head) (index : Nat) (entry : FloodPlanBody)
  | floodPlanRead (h : Head) (index : Nat)
  | duskTableWrite (h : Head) (first : Nat) (entries : List SunPair)
  | duskTableRead (h : Head)
  | gateRead (h : Head)
  | installWriteDial (h : Head) (dial : Nat) (rec : DialInstall)
  | installWriteBell (h : Head) (bell : Nat) (present : Bool)
  | installWriteFrame (h : Head) (keepMax barLimit : Nat)
  | installWriteHammer (h : Head) (bell : Nat) (rec : HammerInstall)
  | installWritePlayer (h : Head) (waitLimit : Nat)
  | installWriteDrive (h : Head) (drive : Nat) (rec : DriveInstall)
  | installWriteSchedule (h : Head) (catchUp : Nat)
  | installWriteCircuit (h : Head) (circuit : Nat) (rec : CircuitInstall)
  | installWriteGate (h : Head) (stagger : Nat)
  | installWriteLink (h : Head) (link : Nat) (enabled : Bool)
  | permitWrite (h : Head) (station : Nat) (rights : Rights)
  | permitRead (h : Head)
  | watchSet (h : Head) (slot : Nat) (target : TargetBody) (mode : ModeBody)
  | watchClear (h : Head) (slot : Nat)
  | watchRead (h : Head)
  | statusRead (h : Head)
  /-- A frame whose KIND is no request code, or whose body does not fit its kind, or an INSTALL WRITE of an unknown
  class (R190, log 11): `kind` is its KIND byte. -/
  | unknownRequest (h : Head) (kind : Byte)
  /-- A run of bytes arrives on a link; `carried` is the request that the body of the frame the run completes spells
  (none where it spells none), since the spec gives no layout of a body (log 11); a KIND without fields needs none. -/
  | receiveFrame (link : Station) (key : Bool) (bytes : List RxByte) (carried : Option Request)
  | frameGapTimeout (link : Station)
  /-- The transmitter finishes its frame; `key` is the level of INSTALL KEY at that moment, at which a waiting frame may
  be taken (R189, R193). -/
  | transmitEnd (link : Station) (key : Bool)
  | minuteEvent
  | summerChange
  | holdover
  | rangeEnd
  | mainsLoss
  /-- Mains has been back for 500 ms; `batteryFailed` says that the battery failed in the absence (R17). -/
  | mainsReturn (batteryFailed : Bool)
  | resetAsserted
  | resetReleased
  | targetIncrement (dial : DialNo)
  | dialFastIntervalEnd (dial : DialNo)
  | dialImpulseEnd (dial : DialNo)
  | pairGapEnd (dial : DialNo)
  | currentSenseLoad (dial : DialNo)
  | currentSenseShort (dial : DialNo)
  | syncClosing (dial : DialNo)
  | leaseDeadline (station : Station)
  | strikeDue
  | hammerRecoveryEnd (bell : BellNo)
  | hammerPulseEnd (bell : BellNo)
  | strikeSensorReport (bell : BellNo)
  | verificationWindowEnd (bell : BellNo)
  | hourFollowGapEnd
  | hourPostRetry
  | hourLateDeadline
  | hourMarkClear
  | tollHeadWaitLimit
  | tollPostRetry
  | tollMarkClear
  | loadingTimerExpiry (slot : SlotNo)
  | tuneWaitLimit
  | tuneStepBegin
  | playComplete
  | hammerPositionClear (drive : DriveNo)
  | liftWaitExpiry (drive : DriveNo)
  | angleCrossing (drive : DriveNo) (dir : Direction)
  | anglePeak (drive : DriveNo) (angle : Nat)
  | swingPulseEnd (drive : DriveNo)
  | deadTimeEnd (drive : DriveNo)
  | kickTimeout (drive : DriveNo)
  | sensorLossExpiry (drive : DriveNo)
  | settleEnd (drive : DriveNo)
  | hammerPositionEngaged (drive : DriveNo)
  | dropWaitExpiry (drive : DriveNo)
  | stopTime (drive : DriveNo)
  | jogEnd (drive : DriveNo)
  | forceExpiry (circuit : CircuitNo)
  | restrikeEnd (circuit : CircuitNo)
  | feedbackPresent (circuit : CircuitNo)
  | feedbackWaitEnd (circuit : CircuitNo)
  | feedbackLost (circuit : CircuitNo)
  | feedbackStuck (circuit : CircuitNo)
  | staggerEnd
  | supplyLimitAsserted
  | supplyLimitReleased
  deriving DecidableEq, Repr

end Sys2Proof
end

