-- ==== Sys2Proof/Decode.lean ====
section
/-! DEFINITION. The command that a word spells by the bits of spec/opcode_table.json. No row of that table gives bits
(98_reader.md counts 0 rows with fixed bits and 0 with fields), so no word spells a command. -/

namespace Sys2Proof

/-- The command that the `nbits` bits `_w` spell by the table: none, for every word (log 27). -/
def decodeTableWord (_nbits _w : Nat) : Option Instr := none

end Sys2Proof
end

