-- ==== Sys2Proof/Config.lean ====
section
/-! DEFINITION. The figures that the rules fix for every part of this kind (they are no settings), and the free values:
what the rules leave open of a dial impulse that is cut, of the store's check, and of the bytes of a body. -/

namespace Sys2Proof.Config

/-- One minute on the tower ms line. -/
def minuteMs : Nat := 60000
/-- One day on the tower ms line. -/
def dayMs : Nat := 86400000
/-- VALID becomes HOLDOVER 48 h after the last accepted TIME SET (R3). -/
def holdoverMs : Nat := 172800000
/-- KEEP_MIN, from the last accepted keepalive to the window's opening (R50, R62). -/
def keepMinMs : Nat := 250
/-- The first-keepalive allowance (R50, R62). -/
def firstKeepMs : Nat := 10000
/-- The strike list's places (R75). -/
def strikeMax : Nat := 32
/-- Hammer coils energised at once, at most (R78). -/
def coilMax : Nat := 3
/-- A blow fired more than this after its due time is late (R79). -/
def lateMs : Nat := 50
/-- The verification window (R80). -/
def verifyMs : Nat := 150
/-- Consecutive misses that put a hammer at FAULT (R80). -/
def missMax : Nat := 3
/-- A refused post is repeated after this (R86, R91). -/
def retryMs : Nat := 100
/-- The toll queue's places (section 4.7). -/
def tollMax : Nat := 4
/-- A toll head waits at most this long (R90). -/
def tollWaitMs : Nat := 120000
/-- The tune pool's steps (R102). -/
def poolSize : Nat := 768
/-- The tune request queue's places (R109). -/
def tuneQueueMax : Nat := 8
/-- The loading timer (R107). -/
def loadingMs : Nat := 60000
/-- The lift wait (R129) and the drop wait (R140). -/
def liftWaitMs : Nat := 3000
/-- Maximum amplitude, degrees (R123, R136). -/
def maxAngle : Nat := 170
/-- A kick peak of this or more takes the drive to RISE (R133). -/
def riseAngle : Nat := 30
/-- A highest kick peak below this at the first kick timeout is a start fail (R134). -/
def kickAngle : Nat := 10
/-- The longest law pulse (R135). -/
def pulseMaxMs : Nat := 800
/-- G of the pulse law, ms per degree (R135). -/
def pulseGain : Nat := 4
/-- The start value of p_prev (R123, R133). -/
def pulseStartMs : Nat := 400
/-- A delayed pulse that would last less than this is skipped (R132). -/
def pulseMinMs : Nat := 50
/-- The brake pulse (R140). -/
def brakeMs : Nat := 300
/-- Half-width of the in-band test, degrees (R135). -/
def bandAngle : Nat := 5
/-- In-band peaks that take a drive to RINGING (R135). -/
def bandPeaks : Nat := 4
/-- The sensor-loss wait (R137). -/
def sensorLossMs : Nat := 4000
/-- The feedback wait (R169). -/
def feedbackWaitMs : Nat := 2000
/-- Continuous absence that is FEEDBACK LOST (R170). -/
def feedbackLostMs : Nat := 500
/-- Continuous presence with the contactor open that is STUCK (R171). -/
def stuckMs : Nat := 2000
/-- A notice queue's places (R194). -/
def noticeMax : Nat := 16
/-- The gap after which an assembling frame is discarded (R188). -/
def gapMs : Nat := 20
/-- The SYNC byte (R187). -/
def syncByte : Byte := 0xD3#8
/-- A free value (R33, log 29): whether the pulse cut on dial `dial` at reading `timer` of the interval timer, half
its width or more delivered but without LOAD yet, would have seen LOAD had it run to the end. Nothing constrains it.
-/
opaque wouldSeeLoad (dial timer : Nat) : Bool
/-- A free value (R17, log 7): the difference between the check held and the check recomputed that a battery failure in an
absence of mains, ended at reading `timer` of the interval timer, leaves in the store. Nothing constrains it. -/
opaque lostCheck (timer : Nat) : BitVec 32

end Sys2Proof.Config
end

