-- ==== Sys2Proof/Machine/Records.lean ====
section
/-! DEFINITION. The records of the ten blocks, as plain data, and what the part sends (replies and notices). -/

namespace Sys2Proof.Machine

/-! ### Time base (01) -/

/-- R3. -/
inductive Validity where
  | unset | valid | holdover
  deriving DecidableEq, Repr

/-- R9. -/
inductive Season where
  | summer | winter
  deriving DecidableEq, Repr

/-- The kind of a start (R5). -/
inductive StartKind where
  | warm | cold
  deriving DecidableEq, Repr

/-- A time as it is given outside: a date and seconds of day. -/
structure DayTime where
  date : Date
  secs : Nat
  deriving DecidableEq, Repr

/-- Last-minute-seen (R14). -/
structure LastSeen where
  localDate : Date
  localMinute : Nat
  stdDate : Date
  stdMinute : Nat
  deriving DecidableEq, Repr

/-- The time base (R1, R3, R5, R6, R9, R14). -/
structure TimeBase where
  date : Date
  secs : Nat
  ms : Nat
  validity : Validity
  /-- the since-set count of R3, in ms -/
  sinceSet : Nat
  summer : Season
  /-- the offset held with the summer state (R9), in minutes -/
  heldOffset : Nat
  rule : DstRule
  lastSeen : LastSeen
  lastStart : StartKind
  /-- the store check at the last start was GOOD (R5, R17) -/
  lastCheckGood : Bool
  deriving DecidableEq, Repr

/-- Mains, RESET, and the retained store's check (R17 to R19). The 32-bit check value that the store holds is kept as its
difference (exclusive or) from the value recomputed over the contents, so that an item and the check are one write (log 7;
`State.heldCheck` is the value itself). -/
structure Power where
  mains : Bool
  reset : Bool
  checkDiff : BitVec 32
  deriving DecidableEq, Repr

/-- R17: the check held agrees with the one recomputed: it is GOOD. -/
def Power.storeGood (p : Power) : Bool := p.checkDiff == 0#32

/-- A hammer position reading (R201). -/
inductive HammerPos where
  | engaged | clear
  deriving DecidableEq, Repr

/-- Input levels the part reads as levels (R169, R179, R193, R201); a feedback input's as last reported, absent from an
opening of its contactor on (log 14). -/
structure Pins where
  installKey : Bool
  supplyLimit : Bool
  hammerPos : Vector HammerPos 6
  feedback : Vector Bool 8
  deriving DecidableEq, Repr

/-! ### Dial driver (02) -/

/-- R24: the step of a dial. -/
inductive DialStep where
  | s30 | s60
  deriving DecidableEq, Repr

/-- R24, R28. -/
inductive DialFault where
  | none | openCircuit | short | sync
  deriving DecidableEq, Repr

/-- R24, R37. -/
inductive SyncExpect where
  | closed | unsatisfied | satisfied
  deriving DecidableEq, Repr

/-- R27, R28, and ABSENT (R41). -/
inductive DialState where
  | inStep | catchingUp | holding | stopped | fault | absent
  deriving DecidableEq, Repr

/-- The kinds of impulse in flight (R24). -/
inductive ImpulseKind where
  | single (pol : Polarity)
  | pairPos
  | pairGap
  | pairNeg
  deriving DecidableEq, Repr

/-- An impulse in flight: the timer at the start of its present pulse (of the POS pulse in the gap), the pulse's
width, and whether LOAD was reported in it (R31). -/
structure Impulse where
  kind : ImpulseKind
  start : Nat
  width : Nat
  load : Bool
  deriving DecidableEq, Repr

/-- Last closure (R24, R35): tower time, and the discrepancy when P was KNOWN. -/
structure Closure where
  time : DayTime
  discrepancy : Option Int
  deriving DecidableEq, Repr

/-- The dial record (R24). -/
structure Dial where
  present : Bool
  step : DialStep
  syncFitted : Bool
  autoCorrect : Bool
  width : Nat
  fast : Nat
  hold : Nat
  pos : Nat
  known : Bool
  lastPol : Polarity
  runEnable : Bool
  fault : DialFault
  absent : Nat
  syncWarn : Bool
  lastClosure : Option Closure
  inFlight : Option Impulse
  /-- none is "long ago" -/
  lastStart : Option Nat
  expect : SyncExpect
  reported : Option DialState
  /-- a sync closing held until the impulse in flight ends (R35) -/
  heldClosing : Bool
  /-- a report of CATCHING UP with D = 1 is held back (R29) -/
  holdBack : Bool
  deriving DecidableEq, Repr

/-! ### Bell frame (03) -/

/-- R48. -/
inductive Holder where
  | clock | swing | station (n : Station)
  deriving DecidableEq, Repr

/-- R48: who waits for a bell. -/
inductive Claimant where
  | swing | station (n : Station)
  deriving DecidableEq, Repr

/-- R48: where a claim comes from: a station, a schedule entry, or none (log 37 says which each claim carries). -/
inductive Origin where
  | none | station (n : Station) | entry (k : EntryNo)
  deriving DecidableEq, Repr

/-- A claim (R48). -/
structure Claim where
  claimant : Claimant
  origin : Origin
  behalf : Option Station
  tag : Option Byte
  since : Nat
  deriving DecidableEq, Repr

/-- The bell record (R48); its swing drive is computed from the drives' assigned bells. -/
structure Bell where
  present : Bool
  holder : Holder
  behalf : Option Station
  waiting : List Claim
  skipped : Nat
  deriving DecidableEq, Repr

/-- R50. -/
structure Frame where
  keepMax : Nat
  barLimit : Nat
  deriving DecidableEq, Repr

/-- R62. -/
inductive Lease where
  | idle
  | first (deadline : Nat)
  | running (opens deadline : Nat)
  deriving DecidableEq, Repr

/-- A station's lease, lapse count and bar (R62, R65). -/
structure StationLease where
  lease : Lease
  lapses : Nat
  barred : Bool
  deriving DecidableEq, Repr

/-! ### Hammer engine (04) -/

/-- R72: cause of a hammer's FAULT. -/
inductive HammerCause where
  | none | misses | lift | drop
  deriving DecidableEq, Repr

/-- R75: source of a strike, with its Tag: the play number for TUNE, the toll's identity for TOLL (log 22), the tag
for HAND and TEST. -/
inductive StrikeSource where
  | hour
  | tune (play : Nat)
  | tollEntry (toll : Nat) (k : EntryNo)
  | tollStation (toll : Nat) (n : Station)
  | hand (n : Station) (tag : Byte)
  | test (n : Station) (tag : Byte)
  deriving DecidableEq, Repr

/-- A strike in the list (R75). `id` rises with the order of posting; `fitted` says that it passed the fit test at its due
time (R76, R78). -/
structure Strike where
  id : Nat
  bell : BellNo
  due : Int
  source : StrikeSource
  fitted : Bool
  deriving DecidableEq, Repr

/-- A pulse in flight (R72, R79): it keeps the width it began with (R73). -/
structure Pulse where
  strike : Strike
  start : Nat
  width : Nat
  deriving DecidableEq, Repr

/-- An open verification window (R72, R80), with the station and tag of a TEST strike (R94). -/
structure Window where
  start : Nat
  counted : Bool
  test : Option (Station × Byte)
  deriving DecidableEq, Repr

/-- The hammer record (R72). -/
structure Hammer where
  fitted : Bool
  sensor : Bool
  width : Nat
  recovery : Nat
  ok : Bool
  cause : HammerCause
  misses : Nat
  lastPulse : Nat
  pulse : Option Pulse
  window : Option Window
  deriving DecidableEq, Repr

/-- The sequences that mark a bell (R81). -/
structure Marks where
  hour : Bool
  toll : Bool
  tune : Bool
  deriving DecidableEq, Repr

/-- The kinds of sequence (R81). -/
inductive Sequence where
  | hour | toll | tune
  deriving DecidableEq, Repr

/-- The four quarters (R82, R119). -/
inductive Quarter where
  | q15 | q30 | q45 | q00
  deriving DecidableEq, Repr

/-- The strike plan (R82). -/
structure StrikePlan where
  hourBell : BellNo
  hourStrike : Bool
  mode : CountMode
  interval : Nat
  lateLimit : Nat
  slot15 : Option SlotNo
  slot30 : Option SlotNo
  slot45 : Option SlotNo
  slot00 : Option SlotNo
  gap : Nat
  deriving DecidableEq, Repr

/-- A refused post to be repeated (R86, R91): the blow's intended due time, and the timer at the next try. -/
structure Retry where
  due : Int
  tryAt : Nat
  deriving DecidableEq, Repr

/-- State of the hour run record (section 4.6). -/
inductive HourState where
  | idle | followWait | gap | striking
  deriving DecidableEq, Repr

/-- The hour run record (section 4.6, R83 to R87). -/
structure HourRun where
  state : HourState
  /-- local minute of day of the boundary acted on -/
  boundary : Nat
  deadline : Nat
  awaited : Option Nat
  gapEnd : Nat
  bell : Option BellNo
  count : Nat
  done : Nat
  posted : Bool
  retry : Option Retry
  /-- timer at the start of the last blow the run fired -/
  lastFired : Option Nat
  /-- the run has ended and its mark may be cleared at this timer reading -/
  clearAt : Option Nat
  deriving DecidableEq, Repr

/-- Source of a toll (section 4.7). -/
inductive TollSource where
  | entry (k : EntryNo)
  | station (n : Station) (tag : Byte)
  deriving DecidableEq, Repr

/-- An entry of the toll queue (section 4.7). -/
structure Toll where
  bell : BellNo
  count : Nat
  interval : Nat
  source : TollSource
  postTime : Nat
  deriving DecidableEq, Repr

/-- The current toll (R90, R91), with the identity that its strikes carry (R75, log 22). -/
structure TollRun where
  id : Nat
  toll : Toll
  done : Nat
  fired : Nat
  retry : Option Retry
  lastFired : Option Nat
  /-- the toll has ended and its mark may be cleared at this timer reading -/
  clearAt : Option Nat
  deriving DecidableEq, Repr

/-- The five counters of a bell (R95). -/
structure BellCounters where
  commanded : Nat
  confirmed : Nat
  missed : Nat
  withheld : Nat
  late : Nat
  deriving DecidableEq, Repr

/-- The four counters of a drive (R95). -/
structure DriveCounters where
  starts : Nat
  startFails : Nat
  trips : Nat
  interlocks : Nat
  deriving DecidableEq, Repr

/-- The live counters (R95). -/
structure Counters where
  bells : Vector BellCounters 12
  drives : Vector DriveCounters 6
  hourDropped : Nat
  tollsSilenced : Nat
  tollsAbandoned : Nat
  tollsDropped : Nat
  deriving DecidableEq, Repr

/-- The snapshot set (R96). -/
structure Snapshot where
  counters : Counters
  station : Station
  time : DayTime
  cleared : Bool
  deriving DecidableEq, Repr

/-! ### Tune player (05) -/

/-- A step of a tune (R101): bells in ascending order of number, length in eighth-beats. -/
structure TuneStep where
  bells : List BellNo
  length : Nat
  deriving DecidableEq, Repr

/-- R101. -/
inductive SlotState where
  | empty | loading | ready
  deriving DecidableEq, Repr

/-- A slot record (R101). A step not yet written is none. Its bell set and play time are computed. -/
structure Slot where
  state : SlotState
  name : List Nat
  tempo : Nat
  count : Nat
  steps : List (Option TuneStep)
  loader : Option Station
  /-- timer reading at which the loading timer runs out (R107) -/
  loadEnd : Nat
  deriving DecidableEq, Repr

/-- Source of a tune request (R109). -/
inductive TuneSource where
  | quarter (q : Quarter)
  | schedule (k : EntryNo)
  | station (n : Station) (tag : Byte)
  deriving DecidableEq, Repr

/-- A request in the tune request queue (R109); `id` names it to the hour run (R85). -/
structure TuneReq where
  id : Nat
  slot : SlotNo
  source : TuneSource
  repeats : Nat
  postTime : Nat
  follow : Bool
  deriving DecidableEq, Repr

/-- The four counts of a play (R115). -/
structure BlowCounts where
  posted : Nat
  fired : Nat
  withheld : Nat
  removed : Nat
  deriving DecidableEq, Repr

/-- The play record (R115). -/
structure Play where
  number : Nat
  slot : SlotNo
  bellSet : List BellNo
  tempo : Nat
  source : TuneSource
  repeats : Nat
  follow : Bool
  reqId : Nat
  repeatIdx : Nat
  stepIdx : Nat
  /-- the timer at which the next step begins; none when every step has begun -/
  nextAt : Option Nat
  startTower : Int
  startTimer : Nat
  counts : BlowCounts
  deriving DecidableEq, Repr

/-- Why a frame test fails (R67). -/
inductive FailReason where
  | held | swinging | waitingClaim
  deriving DecidableEq, Repr

/-- An outcome of a tune request (R119). -/
inductive TuneOutcome where
  | completed | stopped | abandoned | silenced | dropped
  deriving DecidableEq, Repr

/-- What a quarter plan entry shows (R119). -/
inductive QuarterMark where
  | none | waiting | playing | replaced | ended (o : TuneOutcome)
  deriving DecidableEq, Repr

/-- A quarter plan entry (R119): its value and the local time it was last set. -/
structure QuarterEntry where
  mark : QuarterMark
  setAt : Option DayTime
  deriving DecidableEq, Repr

/-- The five tune counts (R119). -/
structure TuneCounts where
  completed : Nat
  stopped : Nat
  abandoned : Nat
  silenced : Nat
  dropped : Nat
  deriving DecidableEq, Repr

/-- The player (R109, R114, R115, R119). -/
structure Player where
  queue : List TuneReq
  play : Option Play
  nextPlay : Nat
  nextId : Nat
  failing : Option (BellNo × FailReason)
  waitLimit : Nat
  /-- the wait limit of the last head test: a written limit applies from the next one (R114, log 41) -/
  testedLimit : Nat
  counts : TuneCounts
  q15 : QuarterEntry
  q30 : QuarterEntry
  q45 : QuarterEntry
  q00 : QuarterEntry
  deriving DecidableEq, Repr

/-! ### Swing controller (06) -/

/-- R123, R125. -/
inductive SwingState where
  | down | lift | queued | kick | rise | ringing | stopping | settle | drop
  deriving DecidableEq, Repr

/-- Source of a swing (R123). -/
inductive SwingSource where
  | none
  | schedule (k : EntryNo)
  | station (n : Station) (tag : Byte)
  deriving DecidableEq, Repr

/-- Ending cause of a swing (R123). -/
inductive SwingCause where
  | none | ended | stopped | lapse | trip | startFail | liftFault | sensorLost
  deriving DecidableEq, Repr

/-- A swing contactor (R123): closed or open, and the timer at which it last opened. -/
structure Contactor where
  closed : Bool
  lastOpened : Nat
  deriving DecidableEq, Repr

/-- A pulse of a drive (R131, R132): its direction, its planned end (none: the next peak), and whether its contactor has
closed or still waits for the dead time. -/
structure SwingPulse where
  dir : Direction
  plannedEnd : Option Nat
  closed : Bool
  deriving DecidableEq, Repr

/-- A jog in flight (R123, R142). -/
structure Jog where
  dir : Direction
  start : Nat
  stop : Nat
  station : Station
  closed : Bool
  deriving DecidableEq, Repr

/-- The drive record (R123), with the timers section 6.7 names. -/
structure Drive where
  bell : Option BellNo
  deadTime : Nat
  kickTime : Nat
  target : Nat
  rest : Nat
  settle : Nat
  brake : Bool
  state : SwingState
  claimWaiting : Option Origin
  grantWaiting : Bool
  source : SwingSource
  stopTime : Option Int
  cause : SwingCause
  lastDir : Option Direction
  pPrev : Nat
  fwd : Contactor
  rev : Contactor
  lastPeak : Option Nat
  inBand : Nat
  highestKick : Option Nat
  jog : Option Jog
  skipped : Nat
  /-- end of the lift wait, the kick timer, the settle timer or the drop wait, by the state -/
  deadline : Option Nat
  kickRun : Nat
  /-- the kick time, in ms, that the present KICK was entered with (R124, R134) -/
  kickLen : Nat
  sensorDeadline : Option Nat
  pulse : Option SwingPulse
  deriving DecidableEq, Repr

/-! ### Schedule (07) -/

/-- R148. -/
inductive Owner where
  | station (n : Station) | install
  deriving DecidableEq, Repr

/-- R148, R175. -/
inductive Trigger where
  | time (minute : Nat)
  | dusk (offset : Int)
  | dawn (offset : Int)
  deriving DecidableEq, Repr

/-- R148. -/
inductive Action where
  | tune (slot : SlotNo) (repeats : Nat)
  | toll (bell : BellNo) (count interval : Nat)
  | swing (bells : List BellNo) (duration : Nat)
  deriving DecidableEq, Repr

/-- A DEFINED schedule entry (R148). -/
structure Entry where
  enabled : Bool
  owner : Owner
  trigger : Trigger
  days : BitVec 7
  window : Option (MonthDay × MonthDay)
  oneShot : Option Date
  action : Action
  lastFired : Option Date
  deriving DecidableEq, Repr

/-- The schedule's setting and counts (R162). -/
structure Sched where
  catchUp : Nat
  fired : Nat
  passed : Nat
  expired : Nat
  deriving DecidableEq, Repr

/-! ### Flood controller and start gate (08) -/

/-- R165. -/
inductive CircuitState where
  | off | cooling | waiting | closing | on | fault
  deriving DecidableEq, Repr

/-- R165. -/
inductive CircuitCause where
  | none | noFeedback | feedbackLost | stuck
  deriving DecidableEq, Repr

/-- R165, R176: expiry of a force. -/
inductive Expiry where
  | tower (t : Int)
  | untilChange
  deriving DecidableEq, Repr

/-- R165: a force. -/
structure Force where
  level : Bool
  station : Station
  expiry : Expiry
  deriving DecidableEq, Repr

/-- The circuit record (R165). -/
structure Circuit where
  present : Bool
  restrike : Nat
  fbPresent : Bool
  state : CircuitState
  cause : CircuitCause
  planOn : Bool
  force : Option Force
  /-- timer reading of the last opening; one reckoned before the present start may lie below 0 (R184) -/
  lastOpen : Int
  contactor : Bool
  /-- end of the feedback wait (R169) -/
  fbDeadline : Option Nat
  /-- timer reading from which the feedback tests run (R166, R169, R172; log 14) -/
  fbFrom : Nat
  deriving DecidableEq, Repr

/-- A flood plan entry (R175). -/
structure FloodPlan where
  enabled : Bool
  circuits : BitVec 8
  days : BitVec 7
  window : Option (MonthDay × MonthDay)
  on : Trigger
  off : Trigger
  deriving DecidableEq, Repr

/-- Who asks the start gate (R179). -/
inductive Requester where
  | drive (d : DriveNo)
  | circuit (c : CircuitNo)
  deriving DecidableEq, Repr

/-- A request in the gate's queue (R179, R181). -/
structure GateReq where
  who : Requester
  since : Nat
  deriving DecidableEq, Repr

/-- The start gate (R179 to R181). -/
structure Gate where
  queue : List GateReq
  lastGrant : Option Nat
  limit : Bool
  stagger : Nat
  grants : Nat
  deriving DecidableEq, Repr

/-! ### What the part sends (09) -/

/-- Cause of a TIME CHANGED (R2, R3, R4, R7, R10, R20, R21). -/
inductive TimeCause where
  | timeSet | ruleChange | summerChange | holdover | rangeEnd | warmStart | coldStart
  deriving DecidableEq, Repr

/-- What TIME CHANGED and the reply to TIME SET carry (R4, R194). -/
structure TimeInfo where
  std : DayTime
  loc : DayTime
  summer : Season
  validity : Validity
  deriving DecidableEq, Repr

/-- A CHANGED item: its kind and index (R194). -/
inductive Item where
  | dstRule
  | dial (d : DialNo)
  | dialInstall (d : DialNo)
  | bellInstall (b : BellNo)
  | frameSettings
  | stationState (n : Station)
  | hammer (b : BellNo)
  | hammerInstall (b : BellNo)
  | strikePlan
  | counters
  | tuneSlot (i : SlotNo)
  | playerSettings
  | driveInstall (d : DriveNo)
  | entry (k : EntryNo)
  | scheduleSettings
  | quietWindow (i : Fin 8)
  | circuitInstall (c : CircuitNo)
  | circuitForce (c : CircuitNo)
  | duskTable
  | planEntry (i : Fin 16)
  | gateSettings
  | permission (n : Station)
  | linkSettings (n : Station)
  deriving DecidableEq, Repr

/-- Who wrote an item (R194): a station, or the part itself. -/
inductive Writer where
  | station (n : Station) | part
  deriving DecidableEq, Repr

/-- Cause of BELL GRANTED (R194). -/
inductive GrantCause where
  | claim | swingEnded
  deriving DecidableEq, Repr

/-- What a lapsing station had on a bell (R64). -/
inductive Had where
  | held | behalf | pending
  deriving DecidableEq, Repr

/-- Outcome of a toll (R90 to R92). -/
inductive TollOutcome where
  | done | ended | stopped | abandoned
  deriving DecidableEq, Repr

/-- Outcome of a hammer test (R94). -/
inductive TestOutcome where
  | confirmed | missed | noSensor | withheld
  deriving DecidableEq, Repr

/-- The outcome fields of a COMPLETE notice (R194), by the owner's rule. -/
inductive Completion where
  /-- R91 -/
  | toll (o : TollOutcome) (fired : Nat)
  /-- R94 -/
  | test (o : TestOutcome)
  /-- R119: the play number and counts for a play that began -/
  | tune (o : TuneOutcome) (slot : SlotNo) (play : Option (Nat × BlowCounts))
  /-- R141 -/
  | swing (bell : BellNo) (o : SwingCause) (engaged notRung : Bool)
  deriving DecidableEq, Repr

/-- Causes of a drive's FAULT notice (R129, R134, R136, R137, R140). -/
inductive DriveFault where
  | liftFault | startFail | trip (angle : Nat) | sensorLost | dropFault
  deriving DecidableEq, Repr

/-- What a FAULT notice carries (R34, R36, R74, R170, R171, and the rules of `DriveFault`). -/
inductive FaultInfo where
  | dial (d : DialNo) (cause : DialFault) (value : Int)
  | hammer (b : BellNo) (cause : HammerCause) (missed : Nat)
  | drive (d : DriveNo) (b : Option BellNo) (cause : DriveFault)
  | circuit (c : CircuitNo) (cause : CircuitCause) (force : Option Force)
  deriving DecidableEq, Repr

/-- A watch target (R196). -/
inductive Target where
  | entry (k : EntryNo) | bell (b : BellNo) | circuit (c : CircuitNo) | dial (d : DialNo)
  deriving DecidableEq, Repr

/-- A watch mode (R196). -/
inductive WatchMode where
  | fire | change
  deriving DecidableEq, Repr

/-- A watch slot's content (R196). -/
structure Watch where
  target : Target
  mode : WatchMode
  deriving DecidableEq, Repr

/-- Why a bell's holder changed (R48). DESIGN CHOICE (log 38): the spec does not list these causes; a grant from the
pending list carries the cause of the letting go that made it. -/
inductive HolderCause where
  | claim | release | lapse | sequenceEnd | swingEnd | start
  deriving DecidableEq, Repr

/-- The requests that write a watched target (R197). -/
inductive WatchedWrite where
  | scheduleWrite | scheduleDelete | installBell | installCircuit | floodForce | floodClear
  | dialSet | dialStop | dialRun | installDial
  deriving DecidableEq, Repr

/-- The event a WATCH HIT reports (R197): for a write by a station, which request wrote. -/
inductive WatchEvent where
  | entryFired
  | blow
  | holder (old new : Holder) (behalf : Option Station) (cause : HolderCause)
  | circuit (old new : CircuitState) (cause : CircuitCause)
  | dial (state : DialState) (p t d : Nat)
  | written (request : WatchedWrite)
  | disabled
  | forceEnded
  | corrected
  deriving DecidableEq, Repr

/-- Cause of a discarded frame (R188). -/
inductive Discard where
  | check | length | gap | overrun
  deriving DecidableEq, Repr

/-- A notice (R194). -/
inductive Notice where
  | timeChanged (cause : TimeCause) (info : TimeInfo)
  | changed (item : Item) (writer : Writer)
  | bellGranted (bell : BellNo) (tag : Option Byte) (cause : GrantCause)
  | bellTakenBack (bell : BellNo) (station : Station) (had : Had) (new : Holder) (cause : HolderCause)
  | complete (tag : Byte) (outcome : Completion)
  | fault (info : FaultInfo)
  | watchHit (slot : Fin 4) (target : Target) (mode : WatchMode) (event : WatchEvent) (writer : Option Writer) (time : DayTime)
  | frameError (cause : Discard) (count : Nat)
  | resync (discarded count : Nat)
  deriving DecidableEq, Repr

/-- The reason codes of REFUSED (R191). -/
inductive Reason where
  | notPermitted | notOwner | owned | busy | full | noSuch | badValue | barred | incomplete | interlock | keyRequired
  deriving DecidableEq, Repr

/-- The detail of a REFUSED (R191): the lowest unwritten step, the holding station, or the failing identity. -/
inductive Detail where
  | none
  | step (i : Nat)
  | station (n : Station)
  | identity (v : Nat)
  deriving DecidableEq, Repr

/-- The stop reasons of a dial (R28). -/
structure StopReasons where
  stopRequested : Bool
  positionUnknown : Bool
  timeUnset : Bool
  deriving DecidableEq, Repr

/-- A pending claim as BELL READ shows it (R51). -/
structure ClaimView where
  claim : Claim
  age : Nat
  deriving DecidableEq, Repr

/-- A station's lease as FRAME READ shows it (R51). -/
structure LeaseView where
  lease : Lease
  left : Option Nat
  lapses : Nat
  barred : Bool
  deriving DecidableEq, Repr

/-- The lease result of KEEPALIVE (R63). -/
inductive LeaseResult where
  | idle | held (deadline : Nat) | lapsed
  deriving DecidableEq, Repr

/-- A part of the snapshot (R96). -/
inductive SnapshotPart where
  | engine (station : Station) (time : DayTime) (cleared : Bool) (hourDropped tollsSilenced tollsAbandoned tollsDropped : Nat)
  | bell (c : BellCounters)
  | drive (c : DriveCounters)
  deriving DecidableEq, Repr

/-- The use of a schedule index as SCHEDULE STATUS shows it (R162). -/
inductive IndexUse where
  | empty | enabled | disabled
  deriving DecidableEq, Repr

/-- Counts of a link (R186). -/
structure LinkCounts where
  received : Nat
  check : Nat
  length : Nat
  gap : Nat
  overrun : Nat
  sent : Nat
  resyncs : Nat
  deriving DecidableEq, Repr

/-- A start or end instant of the DST rule (R6, R9): its date and standard minute. -/
structure RuleInstant where
  date : Date
  minute : Nat
  deriving DecidableEq, Repr

/-- The result fields of a DONE, by the owner's rule (R191). -/
inductive Payload where
  | none
  /-- R4 -/
  | time (info : TimeInfo)
  /-- R5 -/
  | timeRead (info : TimeInfo) (weekday offset sinceMinutes : Nat) (lastStart : StartKind) (checkGood : Bool)
  /-- R7 -/
  | dstRule (rule : DstRule) (start stop : RuleInstant)
  /-- R38 -/
  | dialSet (p t d : Nat) (state : DialState) (stops : StopReasons)
  /-- R39 -/
  | dialStop (state : DialState) (p : Nat) (pol : Polarity)
  /-- R40 -/
  | dialRun (state : DialState) (stops : StopReasons)
  /-- R41; `elapsed` is the elapsed width of an impulse in flight -/
  | dialRead (rec : Dial) (elapsed : Option Nat) (t d : Nat) (state : DialState) (stops : StopReasons) (shown : Option Nat)
      (expectOpen : Bool)
  /-- R60 -/
  | holder (new : Holder)
  /-- R63 -/
  | lease (result : LeaseResult)
  /-- R51 -/
  | bellRead (rec : Bell) (claims : List ClaimView) (drive : Option DriveNo) (marks : Marks) (swing : SwingState)
  /-- R51 -/
  | frameRead (holders : List (Holder × Option Station)) (settings : Frame) (leases : List LeaseView)
  /-- R93 -/
  | due (t : Int)
  /-- R82 -/
  | strikePlan (plan : StrikePlan)
  /-- R96 -/
  | snapshotTime (t : DayTime)
  /-- R96 -/
  | snapshotPart (part : SnapshotPart)
  /-- R97 -/
  | hammerRead (rec : Hammer) (sincePulse : Nat) (busy : Bool) (marks : Marks) (strikes : Nat) (earliest : Option Int)
  /-- R97 -/
  | engineRead (strikes coils : Nat) (hour : HourRun) (deadlineLeft : Nat) (toll : Option TollRun)
      (queue : List (Toll × Nat)) (plan : StrikePlan)
  /-- R104 -/
  | tuneBegin (reserved free : Nat)
  /-- R105 -/
  | unwritten (n : Nat)
  /-- R106 -/
  | tuneEnd (bellSet : List BellNo) (playTime : Nat)
  /-- R107 -/
  | free (n : Nat)
  /-- R108: an EMPTY slot -/
  | tuneEmpty
  /-- R108 -/
  | tuneRead (state : SlotState) (name : List Nat) (tempo count reserved : Nat) (loader : Option Station)
      (ready : Option (List BellNo × Nat)) (loading : Option (Nat × Nat)) (steps : List (Option TuneStep))
  /-- R118 -/
  | tuneStop (number : Nat) (counts : BlowCounts)
  /-- R120 -/
  | playerRead (play : Option (Play × Nat)) (queue : List (TuneReq × Nat)) (failing : Option (BellNo × FailReason))
      (used free waitLimit : Nat) (counts : TuneCounts) (q15 q30 q45 q00 : QuarterEntry)
  /-- R128 -/
  | swingExtended (stopTime : Option Int)
  /-- R139 -/
  | swingState (state : SwingState)
  /-- R142 -/
  | jog (start stop : Nat)
  /-- R144 -/
  | swingRead (rec : Drive) (absent : Bool) (holder : Option (Holder × Option Station)) (timerLeft sensorLeft : Option Nat)
      (stopLeft : Option Int) (pos : HammerPos) (hammerOk : Option Bool) (counters : DriveCounters)
  /-- R149 -/
  | entryWritten (owner : Owner) (trigger : Nat)
  /-- R151 -/
  | entryRead (entry : Option (Entry × Nat × Bool × Bool))
  /-- R162 -/
  | scheduleStatus (settings : Sched) (uses : List IndexUse) (quiet : List (Fin 8 × QuietWindow))
  /-- R160 -/
  | quietRead (window : QuietWindow) (contains : Bool)
  /-- R176 -/
  | flood (state : CircuitState) (expiry : Expiry)
  /-- R177 -/
  | floodState (state : CircuitState)
  /-- R178 -/
  | floodRead (rec : Circuit) (absent : Bool) (desired : Bool) (restrikeLeft : Option Int) (forceLeft : Option Int)
      (plans : List (Fin 16)) (feedback : Bool) (place : Option Nat)
  /-- R178 -/
  | floodStatus (circuits : List (CircuitState × Bool × Option Force))
  /-- R175 -/
  | floodPlan (entry : FloodPlan) (today yesterday : Nat × Nat)
  /-- R173: standard and local dusk and dawn of the current local date -/
  | duskTable (entries : List SunPair) (std loc : Int × Int)
  /-- R181 -/
  | gateRead (queue : List (Requester × Nat)) (limit : Bool) (sinceGrant : Option Nat) (stagger grants : Nat)
  /-- R193 -/
  | rights (sets : List Rights)
  /-- R196 -/
  | watches (slots : List (Option Watch))
  /-- R198 -/
  | status (validity : Validity) (season : Season) (lastStart : StartKind) (installKey supplyLimit : Bool)
      (dials : List (Option DialState × Bool)) (hammers : List (Bool × HammerCause)) (drives : List SwingState)
      (circuits : List CircuitState) (stations : List (Bool × Nat)) (playing : Bool) (queueLength : Nat)
      (counts : LinkCounts) (notices : Nat)
  deriving DecidableEq, Repr

/-- A reply (R191). -/
inductive Reply where
  | done (clamped : Bool) (result : Payload)
  | queued (clamped : Bool)
  | pending (clamped : Bool) (place : Nat)
  | refused (reason : Reason) (detail : Detail)
  deriving DecidableEq, Repr

/-- What takes effect once a reply has been sent (R22, R23, R186). -/
inductive After where
  | nothing
  | restart
  | factoryClear
  | setLink (link : Station) (enabled : Bool)
  deriving DecidableEq, Repr

/-- A reply frame (R190). -/
structure ReplyFrame where
  tag : Byte
  reply : Reply
  after : After
  deriving DecidableEq, Repr

/-- A frame on the transmitter (R192). -/
inductive OutFrame where
  | reply (r : ReplyFrame)
  | notice (n : Notice)
  deriving DecidableEq, Repr

/-- The receiver (R186, R188): in ASSEMBLING, the bytes after SYNC and the timer at the last byte. -/
inductive Receiver where
  | hunt
  | assembling (bytes : List Byte) (last : Nat)
  deriving DecidableEq, Repr

/-- A complete request frame (R189): its KIND, its TAG and the request its body spells. -/
structure ReqFrame where
  kind : Byte
  tag : Byte
  request : Option Request
  deriving DecidableEq, Repr

/-- The reply waiting place (R186). `owed` stands only inside a step, between the taking of a request and the placing
of its reply (R190). -/
inductive ReplyPlace where
  | empty
  | owed
  | held (r : ReplyFrame)
  deriving DecidableEq, Repr

/-- A link record (R186). -/
structure Link where
  enabled : Bool
  rx : Receiver
  waiting : Option ReqFrame
  reply : ReplyPlace
  tx : Option OutFrame
  notices : List Notice
  counts : LinkCounts
  deriving DecidableEq, Repr

end Sys2Proof.Machine
end

