-- ==== Sys2Proof/Machine/Factory.lean ====
section
/-! DEFINITION. The factory values (the values after a cold start) and the start values of the volatile fields, record by
record, each from the block's own table. -/

namespace Sys2Proof.Machine

/-- 2000-01-01 (R21). -/
def firstDate : Date := ⟨2000, 1, 1⟩

/-- R6. -/
def factoryRule : DstRule :=
  { enabled := true, startMonth := 3, startOcc := .last, startDay := 0, startMin := 60,
    endMonth := 10, endOcc := .last, endDay := 0, endMin := 60, offset := 60 }

/-- R14: after a cold start. -/
def coldLastSeen : LastSeen := ⟨firstDate, 0, firstDate, 0⟩

/-- R3, R5, R6, R14, R21: the time base right after a cold start whose check was `checkGood`. -/
def coldTimeBase (checkGood : Bool) : TimeBase :=
  { date := firstDate, secs := 0, ms := 0, validity := .unset, sinceSet := 0, summer := .winter, heldOffset := 60,
    rule := factoryRule, lastSeen := coldLastSeen, lastStart := .cold, lastCheckGood := checkGood }

/-- R24, R47. -/
def factoryDial : Dial :=
  { present := true, step := .s60, syncFitted := false, autoCorrect := false, width := 400, fast := 2, hold := 90,
    pos := 0, known := false, lastPol := .unknown, runEnable := true, fault := .none, absent := 0, syncWarn := false,
    lastClosure := none, inFlight := none, lastStart := none, expect := .closed, reported := none,
    heldClosing := false, holdBack := false }

/-- R71. -/
def factoryBell : Bell := { present := true, holder := .clock, behalf := none, waiting := [], skipped := 0 }

/-- R50, R71. -/
def factoryFrame : Frame := { keepMax := 5, barLimit := 3 }

/-- R70, R71. -/
def startLease : StationLease := { lease := .idle, lapses := 0, barred := false }

/-- R72, R100, at a start at timer reading `now`. -/
def factoryHammer (now : Nat) : Hammer :=
  { fitted := true, sensor := true, width := 60, recovery := 600, ok := true, cause := .none, misses := 0,
    lastPulse := now, pulse := none, window := none }

/-- R81. -/
def noMarks : Marks := { hour := false, toll := false, tune := false }

/-- R82. -/
def factoryPlan : StrikePlan :=
  { hourBell := 11, hourStrike := true, mode := .twelve, interval := 2500, lateLimit := 5, slot15 := none,
    slot30 := none, slot45 := none, slot00 := none, gap := 2 }

/-- Section 4.6: IDLE. DESIGN CHOICE (log 40): the spec does not say what the other fields hold in IDLE. -/
def idleHour : HourRun :=
  { state := .idle, boundary := 0, deadline := 0, awaited := none, gapEnd := 0, bell := none, count := 0, done := 0,
    posted := false, retry := none, lastFired := none, clearAt := none }

/-- R100: every counter 0. -/
def zeroCounters : Counters :=
  { bells := Vector.replicate 12 ⟨0, 0, 0, 0, 0⟩, drives := Vector.replicate 6 ⟨0, 0, 0, 0⟩, hourDropped := 0,
    tollsSilenced := 0, tollsAbandoned := 0, tollsDropped := 0 }

/-- R101. -/
def emptySlot : Slot :=
  { state := .empty, name := [], tempo := 0, count := 0, steps := [], loader := none, loadEnd := 0 }

/-- R119: NONE. DESIGN CHOICE (log 62): it carries no local time, for none has been set since the start. -/
def noQuarter : QuarterEntry := ⟨.none, none⟩

/-- R122: the player at a start, with its retained wait limit. -/
def startPlayer (waitLimit : Nat) : Player :=
  { queue := [], play := none, nextPlay := 0, nextId := 0, failing := none, waitLimit := waitLimit,
    testedLimit := waitLimit, counts := ⟨0, 0, 0, 0, 0⟩, q15 := noQuarter, q30 := noQuarter, q45 := noQuarter, q00 := noQuarter }

/-- R114. -/
def factoryWaitLimit : Nat := 120

/-- R123: the volatile fields of a drive at a start at timer reading `now`, the rest kept. -/
def Drive.startVolatile (d : Drive) (now : Nat) : Drive :=
  { d with
    claimWaiting := none, grantWaiting := false, source := .none, stopTime := none, cause := .none, lastDir := none,
    pPrev := Config.pulseStartMs, fwd := ⟨false, now⟩, rev := ⟨false, now⟩, lastPeak := none, inBand := 0,
    highestKick := none, jog := none, skipped := 0, deadline := none, kickRun := 1, kickLen := 0, sensorDeadline := none,
    pulse := none }

/-- R123, R147, at a start at timer reading `now`. -/
def factoryDrive (now : Nat) : Drive :=
  { bell := none, deadTime := 300, kickTime := 20, target := 110, rest := 8, settle := 90, brake := true,
    state := .down, claimWaiting := none, grantWaiting := false, source := .none, stopTime := none, cause := .none,
    lastDir := none, pPrev := Config.pulseStartMs, fwd := ⟨false, now⟩, rev := ⟨false, now⟩, lastPeak := none,
    inBand := 0, highestKick := none, jog := none, skipped := 0, deadline := none, kickRun := 1, kickLen := 0,
    sensorDeadline := none, pulse := none }

/-- R160. -/
def factoryWindow : QuietWindow :=
  { enabled := false, start := 0, stop := 0, days := 0, hours := false, quarters := false, scheduled := false }

/-- R162: the factory catch-up window. -/
def factoryCatchUp : Nat := 15

/-- R162: the schedule's counts at a start, with its retained catch-up window. -/
def startSched (catchUp : Nat) : Sched := { catchUp := catchUp, fired := 0, passed := 0, expired := 0 }

/-- R165, R185, at a cold start at timer reading `now`: COOLING for the full delay. -/
def factoryCircuit (now : Nat) : Circuit :=
  { present := true, restrike := 10, fbPresent := false, state := .cooling, cause := .none, planOn := false,
    force := none, lastOpen := now, contactor := false, fbDeadline := none, fbFrom := now }

/-- R175. -/
def factoryFloodPlan : FloodPlan :=
  { enabled := false, circuits := 0, days := 0, window := none, on := .time 0, off := .time 0 }

/-- R173: the factory dusk/dawn table. -/
def factoryDusk : Vector SunPair 24 :=
  #v[⟨1000, 480⟩, ⟨1020, 470⟩, ⟨1045, 450⟩, ⟨1070, 425⟩, ⟨1090, 400⟩, ⟨1100, 370⟩, ⟨1130, 340⟩, ⟨1155, 310⟩,
     ⟨1180, 285⟩, ⟨1200, 265⟩, ⟨1220, 250⟩, ⟨1230, 245⟩, ⟨1230, 250⟩, ⟨1220, 265⟩, ⟨1195, 290⟩, ⟨1170, 315⟩,
     ⟨1135, 340⟩, ⟨1100, 365⟩, ⟨1065, 390⟩, ⟨1030, 415⟩, ⟨1000, 440⟩, ⟨985, 460⟩, ⟨975, 475⟩, ⟨980, 482⟩]

/-- R181: the factory stagger interval. -/
def factoryStagger : Nat := 3

/-- R181, R184: the gate at a start, with its retained stagger interval and the level of SUPPLY LIMIT. -/
def startGate (stagger : Nat) (limit : Bool) : Gate :=
  { queue := [], lastGrant := none, limit := limit, stagger := stagger, grants := 0 }

/-- R186: a link at a start, with its retained enabled field. -/
def startLink (enabled : Bool) : Link :=
  { enabled := enabled, rx := .hunt, waiting := none, reply := .empty, tx := none, notices := [],
    counts := ⟨0, 0, 0, 0, 0, 0, 0⟩ }

/-- R193. -/
def factoryRights : Vector Rights 3 :=
  #v[⟨true, true, true, true, true⟩, ⟨false, false, true, true, false⟩, ⟨false, false, false, true, false⟩]

/-- R196: every watch slot empty. -/
def noWatches : Vector (Vector (Option Watch) 4) 3 := Vector.replicate 3 (Vector.replicate 4 none)

/-- R21, R194: what the TIME CHANGED of a cold start carries. -/
def coldTimeInfo : TimeInfo := ⟨⟨firstDate, 0⟩, ⟨firstDate, 0⟩, .winter, .unset⟩

end Sys2Proof.Machine
end

