-- ==== Sys2Proof/Machine/State.lean ====
section
/-! DEFINITION. The state of the part, as plain data: every register, queue, counter, mode and pin the spec gives it, and
the queue of waiting commands; the outcomes a command can have; and the state right after reset. -/

namespace Sys2Proof.Machine

/-- The state of the part. -/
structure State where
  /-- the commands that wait, first in, first out -/
  pending : List Instr
  /-- the interval timer, in ms (log 2) -/
  timer : Nat
  tb : TimeBase
  power : Power
  pins : Pins
  dials : Vector Dial 4
  bells : Vector Bell 12
  frame : Frame
  leases : Vector StationLease 3
  hammers : Vector Hammer 12
  marks : Vector Marks 12
  strikes : List Strike
  nextStrike : Nat
  plan : StrikePlan
  hour : HourRun
  tollQueue : List Toll
  toll : Option TollRun
  /-- the identity of the next toll to start (R75, log 22) -/
  nextToll : Nat
  counters : Counters
  snapshot : Option Snapshot
  slots : Vector Slot 16
  player : Player
  drives : Vector Drive 6
  entries : Vector (Option Entry) 96
  windows : Vector QuietWindow 8
  sched : Sched
  circuits : Vector Circuit 8
  floodPlan : Vector FloodPlan 16
  duskTable : Vector SunPair 24
  gate : Gate
  links : Vector Link 3
  /-- the enabled field of each link as the retained store holds it (R186, log 9) -/
  linkSettings : Vector Bool 3
  rights : Vector Rights 3
  watches : Vector (Vector (Option Watch) 4) 3
  deriving DecidableEq, Repr

/-- A fault of the model: there is none, since no command of the table stops the part. Safe: no run ends here. -/
inductive Fault where
  deriving DecidableEq, Repr

/-- A refusal of the model. -/
inductive Refusal where
  /-- Raised by `exec` for a command without a meaning yet, by its mnemonic. Safe: the run ends. No arm raises it. -/
  | notModelled (mnemonic : String)
  deriving DecidableEq, Repr

/-- The part right after reset (log 8): a cold start has ended (R21, R47, R71, R100, R122, R147, R164, R185, R200),
mains is present, RESET is released, and each link is sending the TIME CHANGED of the start. Every dial's first
decision, STOPPED (R47), has been reported (R29). -/
def State.reset : State :=
  { pending := [], timer := 0, tb := coldTimeBase false, power := ⟨true, false, 0#32⟩,
    pins := ⟨false, false, Vector.replicate 6 .engaged, Vector.replicate 8 false⟩,
    dials := Vector.replicate 4 { factoryDial with reported := some .stopped },
    bells := Vector.replicate 12 factoryBell, frame := factoryFrame, leases := Vector.replicate 3 startLease,
    hammers := Vector.replicate 12 (factoryHammer 0), marks := Vector.replicate 12 noMarks, strikes := [],
    nextStrike := 0, plan := factoryPlan, hour := idleHour, tollQueue := [], toll := none, nextToll := 0, counters := zeroCounters,
    snapshot := none, slots := Vector.replicate 16 emptySlot, player := startPlayer factoryWaitLimit,
    drives := Vector.replicate 6 (factoryDrive 0), entries := Vector.replicate 96 none,
    windows := Vector.replicate 8 factoryWindow, sched := startSched factoryCatchUp,
    circuits := Vector.replicate 8 (factoryCircuit 0), floodPlan := Vector.replicate 16 factoryFloodPlan,
    duskTable := factoryDusk, gate := startGate factoryStagger false,
    links := Vector.replicate 3
      { startLink true with
        tx := some (.notice (.timeChanged .coldStart coldTimeInfo)), counts := ⟨0, 0, 0, 0, 0, 1, 0⟩ },
    linkSettings := Vector.replicate 3 true, rights := factoryRights, watches := noWatches }

end Sys2Proof.Machine
end

