-- ==== Sys2Proof/Machine/Calendar.lean ====
section
/-! DEFINITION. The calendar of R8, the summer decision of R9, the tower ms line and local time of R1. -/

namespace Sys2Proof.Machine

/-- R8: a leap year is divisible by 4. -/
def leapYear (y : Nat) : Bool := y % 4 == 0

/-- R8: the days of month `m` of year `y`. -/
def monthLength (y m : Nat) : Nat :=
  match m with
  | 2 => if leapYear y then 29 else 28
  | 4 | 6 | 9 | 11 => 30
  | _ => 31

/-- R8: the days of the whole months before month `m` in year `y`. -/
def daysBefore (y : Nat) : Nat → Nat
  | 0 => 0
  | 1 => 0
  | m + 1 => daysBefore y m + monthLength y m

/-- R8: days from 2000-01-01, 365 for each whole year and one for each leap year among them. (An Int, so that the day
before 2000-01-01 has its count too.) -/
def dayCount (d : Date) : Int :=
  let years : Int := (d.year : Int) - 2000
  365 * years + (years + 3) / 4 + (daysBefore d.year d.month : Int) + (d.day : Int) - 1

/-- R8: (6 + day count) mod 7, Sunday being 0. -/
def weekday (d : Date) : Nat := ((6 + dayCount d) % 7).toNat

/-- The date after `d`. -/
def nextDate (d : Date) : Date :=
  if d.day < monthLength d.year d.month then { d with day := d.day + 1 }
  else if d.month < 12 then ⟨d.year, d.month + 1, 1⟩
  else ⟨d.year + 1, 1, 1⟩

/-- The date before `d`. -/
def prevDate (d : Date) : Date :=
  if 1 < d.day then { d with day := d.day - 1 }
  else if 1 < d.month then ⟨d.year, d.month - 1, monthLength d.year (d.month - 1)⟩
  else ⟨d.year - 1, 12, 31⟩

/-- Dates in order, as one number. -/
def dateKey (d : Date) : Nat := d.year * 10000 + d.month * 100 + d.day

/-- Month-days in order (R148), as one number. -/
def monthDayKey (d : MonthDay) : Nat := d.month * 100 + d.day

/-- R4: a date that TIME SET may carry, a real date in 2000 … 2099. -/
def realDate (d : Date) : Bool :=
  2000 ≤ d.year && d.year ≤ 2099 && 1 ≤ d.month && d.month ≤ 12 && 1 ≤ d.day && d.day ≤ monthLength d.year d.month

/-- R148: a valid month-day, by the last day of the month in a leap year. -/
def realMonthDay (d : MonthDay) : Bool :=
  1 ≤ d.month && d.month ≤ 12 && 1 ≤ d.day && d.day ≤ monthLength 2000 d.month

/-- R8: the day of month `m` of year `y` on which an occurrence of a weekday falls. -/
def occurrenceDay (y m : Nat) (occ : Occurrence) (w : Nat) : Nat :=
  match occ with
  | .nth n => 1 + (w + 7 - weekday ⟨y, m, 1⟩) % 7 + 7 * (n - 1)
  | .last => monthLength y m - (weekday ⟨y, m, monthLength y m⟩ + 7 - w) % 7

/-- R6, R9: the start instant of the rule in standard year `y`. -/
def ruleStart (r : DstRule) (y : Nat) : RuleInstant :=
  ⟨⟨y, r.startMonth, occurrenceDay y r.startMonth r.startOcc r.startDay⟩, r.startMin⟩

/-- R6, R9: the end instant of the rule in standard year `y`. -/
def ruleStop (r : DstRule) (y : Nat) : RuleInstant :=
  ⟨⟨y, r.endMonth, occurrenceDay y r.endMonth r.endOcc r.endDay⟩, r.endMin⟩

/-- Minutes from 2000-01-01 00:00 to a minute of a date. -/
def minuteIndex (d : Date) (minute : Nat) : Int := dayCount d * 1440 + minute

/-- R9: the summer state for the standard instant of `minute` of standard date `d`. -/
def decideSummer (r : DstRule) (d : Date) (minute : Nat) : Season :=
  if r.enabled then
    let t := minuteIndex d minute
    let s := minuteIndex (ruleStart r d.year).date (ruleStart r d.year).minute
    let e := minuteIndex (ruleStop r d.year).date (ruleStop r d.year).minute
    if s < e then (if s ≤ t ∧ t < e then .summer else .winter)
    else if e < s then (if s ≤ t ∨ t < e then .summer else .winter)
    else .winter
  else .winter

/-- The minutes that a season adds to standard time under an offset: none in WINTER (R1, R10). -/
def seasonOffset (s : Season) (offset : Nat) : Nat :=
  match s with
  | .summer => offset
  | .winter => 0

/-- R5, R9: the summer offset in force, 0 in WINTER (log 12). -/
def TimeBase.offset (tb : TimeBase) : Nat := seasonOffset tb.summer tb.heldOffset

/-- R1: the tower ms line, milliseconds from 2000-01-01 00:00:00.000 standard. -/
def TimeBase.towerMs (tb : TimeBase) : Int := (dayCount tb.date * 86400 + tb.secs) * 1000 + tb.ms

/-- Standard minute of day. -/
def TimeBase.stdMinute (tb : TimeBase) : Nat := tb.secs / 60

/-- R1: a standard instant moved forward by `offset` minutes; the date may be the next one. -/
def shiftLocal (d : Date) (secs offset : Nat) : DayTime :=
  let t := secs + offset * 60
  if t < 86400 then ⟨d, t⟩ else ⟨nextDate d, t - 86400⟩

/-- R1: local date and seconds of day. -/
def TimeBase.loc (tb : TimeBase) : DayTime := shiftLocal tb.date tb.secs tb.offset

/-- R1: local minute of day. -/
def DayTime.minute (t : DayTime) : Nat := t.secs / 60

/-- The whole second before a date and time. -/
def DayTime.secondBefore (t : DayTime) : DayTime :=
  if t.secs = 0 then ⟨prevDate t.date, 86399⟩ else { t with secs := t.secs - 1 }

/-- Seconds from 2000-01-01 00:00:00 to a date and time, on the line that date and time are given in. -/
def DayTime.index (t : DayTime) : Int := dayCount t.date * 86400 + t.secs

/-- R194: what a TIME CHANGED carries now. -/
def TimeBase.info (tb : TimeBase) : TimeInfo := ⟨⟨tb.date, tb.secs⟩, tb.loc, tb.summer, tb.validity⟩

/-- R9: the decision for the current instant, held together with the rule's offset. -/
def TimeBase.redecide (tb : TimeBase) : TimeBase :=
  { tb with summer := decideSummer tb.rule tb.date tb.stdMinute, heldOffset := tb.rule.offset }

/-- R14: last-minute-seen set to the current local minute. -/
def TimeBase.see (tb : TimeBase) : TimeBase :=
  { tb with lastSeen := ⟨tb.loc.date, tb.loc.minute, tb.date, tb.stdMinute⟩ }

/-- R2: the last millisecond of 2099 standard time. -/
def TimeBase.atRangeEnd (tb : TimeBase) : Bool :=
  tb.date == ⟨2099, 12, 31⟩ && tb.secs == 86399 && tb.ms == 999

/-- R1: one millisecond of counting; at the end of the range RANGE END counts on (R2). -/
def TimeBase.count (tb : TimeBase) : TimeBase :=
  if tb.atRangeEnd then tb
  else if tb.ms < 999 then { tb with ms := tb.ms + 1 }
  else if tb.secs < 86399 then { tb with ms := 0, secs := tb.secs + 1 }
  else { tb with ms := 0, secs := 0, date := nextDate tb.date }

/-- The count stands at a standard minute boundary, and so at a local one (R1). -/
def TimeBase.atMinute (tb : TimeBase) : Bool := tb.ms == 0 && tb.secs % 60 == 0

/-- R128, R176: an instant of the tower ms line rounded up to a whole minute. -/
def roundUpMinute (t : Int) : Int := (t + 59999) / 60000 * 60000

end Sys2Proof.Machine
end

