-- ==== Sys2Proof/Machine/Ops.lean ====
section
/-! DEFINITION. The named operations over the state: one updater per table, the readings every block shares (running, the
drive of a bell, its swing state, its sequence mark), and the way a step hands reports from block to block. -/

namespace Sys2Proof.Machine

/-! ### Updaters -/

def State.onTb (s : State) (f : TimeBase → TimeBase) : State := { s with tb := f s.tb }
def State.onDial (s : State) (d : DialNo) (f : Dial → Dial) : State := { s with dials := put s.dials d (f s.dials[d]) }
def State.onBell (s : State) (b : BellNo) (f : Bell → Bell) : State := { s with bells := put s.bells b (f s.bells[b]) }
def State.onLease (s : State) (n : Station) (f : StationLease → StationLease) : State :=
  { s with leases := put s.leases n (f s.leases[n]) }
def State.onHammer (s : State) (b : BellNo) (f : Hammer → Hammer) : State :=
  { s with hammers := put s.hammers b (f s.hammers[b]) }
def State.onMarks (s : State) (b : BellNo) (f : Marks → Marks) : State := { s with marks := put s.marks b (f s.marks[b]) }
def State.onHour (s : State) (f : HourRun → HourRun) : State := { s with hour := f s.hour }
def State.onToll (s : State) (f : TollRun → TollRun) : State := { s with toll := s.toll.map f }
def State.onCounters (s : State) (f : Counters → Counters) : State := { s with counters := f s.counters }
def State.onBellCount (s : State) (b : BellNo) (f : BellCounters → BellCounters) : State :=
  s.onCounters fun c => { c with bells := put c.bells b (f c.bells[b]) }
def State.onDriveCount (s : State) (d : DriveNo) (f : DriveCounters → DriveCounters) : State :=
  s.onCounters fun c => { c with drives := put c.drives d (f c.drives[d]) }
def State.onSlot (s : State) (i : SlotNo) (f : Slot → Slot) : State := { s with slots := put s.slots i (f s.slots[i]) }
def State.onPlayer (s : State) (f : Player → Player) : State := { s with player := f s.player }
def State.onDrive (s : State) (d : DriveNo) (f : Drive → Drive) : State :=
  { s with drives := put s.drives d (f s.drives[d]) }
def State.onCircuit (s : State) (c : CircuitNo) (f : Circuit → Circuit) : State :=
  { s with circuits := put s.circuits c (f s.circuits[c]) }
def State.onSched (s : State) (f : Sched → Sched) : State := { s with sched := f s.sched }
def State.onGate (s : State) (f : Gate → Gate) : State := { s with gate := f s.gate }
def State.onLink (s : State) (n : Station) (f : Link → Link) : State := { s with links := put s.links n (f s.links[n]) }
def State.onPins (s : State) (f : Pins → Pins) : State := { s with pins := f s.pins }
def State.setEntry (s : State) (k : EntryNo) (e : Option Entry) : State := { s with entries := put s.entries k e }

/-- R201: a feedback input's reading. -/
def readFeedback (c : CircuitNo) (v : Bool) (s : State) : State :=
  s.onPins fun x => { x with feedback := put x.feedback c v }

/-! ### The numbers of the tower's objects, in ascending order -/

def allStations : List Station := [0, 1, 2]
def allDials : List DialNo := [0, 1, 2, 3]
def allBells : List BellNo := [0, 1, 2, 3, 4, 5, 6, 7, 8, 9, 10, 11]
def allDrives : List DriveNo := [0, 1, 2, 3, 4, 5]
def allCircuits : List CircuitNo := [0, 1, 2, 3, 4, 5, 6, 7]
def allEighths : List (Fin 8) := [0, 1, 2, 3, 4, 5, 6, 7]
def allSlots : List SlotNo := List.finRange 16
def allPlans : List (Fin 16) := List.finRange 16
def allEntries : List EntryNo := List.finRange 96

/-! ### Readings that several blocks share -/

/-- R18, R19: the part is not stopped. A start takes no time in the model (log 6). -/
def State.running (s : State) : Bool := s.power.mains && !s.power.reset

/-- The standard instant on the tower ms line (R1). -/
def State.now (s : State) : Int := s.tb.towerMs

/-- R48: the drive whose install record assigns it to the bell, or none. -/
def State.driveOf (s : State) (b : BellNo) : Option DriveNo := allDrives.find? fun d => s.drives[d].bell == some b

/-- R48, R123: the swing state of a bell; a bell with no drive counts as DOWN. -/
def State.swingOf (s : State) (b : BellNo) : SwingState :=
  match s.driveOf b with
  | some d => s.drives[d].state
  | none => .down

/-- R76: the hammer position sensor of the bell's drive reads ENGAGED; a bell with no drive counts as ENGAGED. -/
def State.engaged (s : State) (b : BellNo) : Bool :=
  match s.driveOf b with
  | some d => s.pins.hammerPos[d] == .engaged
  | none => true

/-- R81: the bell's set of sequences is not empty. -/
def Marks.any (m : Marks) : Bool := m.hour || m.toll || m.tune

/-- R81: the bell is in sequence. -/
def State.inSequence (s : State) (b : BellNo) : Bool := s.marks[b].any

/-- R79: a pulse is in flight on the bell's hammer. -/
def State.busy (s : State) (b : BellNo) : Bool := s.hammers[b].pulse.isSome

/-- R78: hammer coils energised. -/
def State.coils (s : State) : Nat := (allBells.filter s.busy).length

/-- R62: the station holds a bell, as holder or as behalf. -/
def State.holdsAny (s : State) (n : Station) : Bool :=
  allBells.any fun b => s.bells[b].holder == .station n || s.bells[b].behalf == some n

/-! ### Reports inside a step

What one block tells another while a step runs is a `Task`. An operation answers the new state and the tasks it raises;
`settle` (Settle.lean) runs them in the order they were raised until none is left, all inside the step. -/

inductive Task where
  /-- HE fit-tests what has fallen due and lets the arbiter choose (R76, R78) -/
  | strikes
  /-- TP tests the head of its queue (R113) -/
  | tuneHead
  /-- HE tests the head of the toll queue (R90) -/
  | tollHead
  /-- BF or SC reports a change on a bell: of its holder, or of its pending list or swing state (R48, R113, R123) -/
  | bellChanged (b : BellNo) (holder : Bool)
  /-- HE reports that a bell has left its last sequence (R58, R81) -/
  | sequenceRelease (b : BellNo)
  /-- BF grants the SWING claim on a bell (R57, R129) -/
  | swingGrant (b : BellNo)
  /-- BF asks a drive to stop after a lapse (R64, R138) -/
  | lapseStop (d : DriveNo)
  /-- TP reports the outcome of a quarter request with the follow flag (R85) -/
  | followOutcome (id : Nat) (o : TuneOutcome)
  /-- SG tests its head (R180) -/
  | gateTest
  deriving DecidableEq, Repr

/-- A state, and the tasks raised in reaching it that have still to run. -/
structure Run where
  st : State
  todo : List Task

/-- An operation that raises no task. -/
def quiet (s : State) : Run := ⟨s, []⟩

/-- An operation that raises tasks. -/
def raise (s : State) (ts : List Task) : Run := ⟨s, ts⟩

/-- Go on with an operation on the state reached; its tasks come after those already raised. -/
def Run.andThen (r : Run) (f : State → Run) : Run := ⟨(f r.st).st, r.todo ++ (f r.st).todo⟩

/-- Go on with an operation that raises no task. -/
def Run.thenDo (r : Run) (f : State → State) : Run := ⟨f r.st, r.todo⟩

/-- Do an operation for each element of a list, in order. -/
def forEach {α : Type} (l : List α) (f : α → State → Run) (s : State) : Run :=
  l.foldl (fun r a => r.andThen (f a)) (quiet s)

/-- Do an operation that raises no task for each element of a list, in order. -/
def forAll {α : Type} (l : List α) (f : α → State → State) (s : State) : State := l.foldl (fun s a => f a s) s

end Sys2Proof.Machine
end

