-- ==== Sys2Proof/Machine/Operands.lean ====
section
/-! DEFINITION. How a request's operands are read: identities are refused outside their range, timing and duration
values are clamped to the nearer end (00_scope 4.3), and a list or record is checked whole. -/

namespace Sys2Proof.Machine

/-- 00_scope 4.3: a value outside its range is clamped to the nearer end. -/
def clamp (lo hi v : Nat) : Nat := max lo (min hi v)

/-- The value lies outside its range, so that clamping it sets CLAMPED. -/
def outside (lo hi v : Nat) : Bool := v < lo || hi < v

/-- An identity counted from 1 (bells, dials, drives, circuits, stations, links). -/
def ident1 (k n : Nat) : Option (Fin k) := if h : 1 ≤ n ∧ n ≤ k then some ⟨n - 1, by omega⟩ else none

/-- An identity counted from 0 (slots, entries, windows, plan entries, watch slots). -/
def ident0 (k n : Nat) : Option (Fin k) := if h : n < k then some ⟨n, h⟩ else none

/-- R191: REFUSED with no detail. -/
def refuse (r : Reason) : Reply := .refused r .none

/-- R191: REFUSED with BAD VALUE and the failing identity. -/
def badValue (v : Nat) : Reply := .refused .badValue (.identity v)

/-- R149, R175: a signed offset, −120 … +120, clamped. -/
def clampOffset (v : Int) : Int := max (-120) (min 120 v)

/-- A trigger's offset lies outside −120 … +120. -/
def outsideOffset (v : Int) : Bool := v < -120 || 120 < v

/-- R149, R175: the trigger a request carries, clamped; none for an unknown kind. -/
def readTrigger : TriggerBody → Option Trigger
  | .time m => some (.time (clamp 0 1439 m))
  | .dusk o => some (.dusk (clampOffset o))
  | .dawn o => some (.dawn (clampOffset o))
  | .other _ => none

/-- R149, R175: reading the trigger clamps it. -/
def triggerClamped : TriggerBody → Bool
  | .time m => outside 0 1439 m
  | .dusk o => outsideOffset o
  | .dawn o => outsideOffset o
  | .other _ => false

/-- R149: a swing bell set: one to six distinct bells of 1 … 12. -/
def readBells (l : List Nat) : Option (List BellNo) :=
  if 1 ≤ l.length ∧ l.length ≤ 6 ∧ l.Nodup then l.mapM (ident1 12) else none

/-- R149: the action a request carries, clamped; none for one that is refused BAD VALUE. -/
def readAction : ActionBody → Option Action
  | .tune slot repeats => (ident0 16 slot).map fun i => .tune i (clamp 1 4 repeats)
  | .toll bell count interval => (ident1 12 bell).map fun b => .toll b (clamp 1 120 count) (clamp 2 60 interval)
  | .swing bells duration => (readBells bells).map fun l => .swing l (clamp 1 60 duration)
  | .other _ => none

/-- R149: reading the action clamps it. -/
def actionClamped : ActionBody → Bool
  | .tune _ repeats => outside 1 4 repeats
  | .toll _ count interval => outside 1 120 count || outside 2 60 interval
  | .swing _ duration => outside 1 60 duration
  | .other _ => false

/-- R149, R175: a date window is absent or has two valid month-days. -/
def windowOk (w : Option (MonthDay × MonthDay)) : Bool := w.all fun (a, b) => realMonthDay a && realMonthDay b

/-- R105: one step of TUNE STEPS: at most three distinct bells of 1 … 12, and its length clamped. DESIGN CHOICE (log 73):
the bells are kept, and shown by TUNE READ, in ascending number, in which R116 posts them. -/
def readStep (x : StepBody) : Option TuneStep :=
  if x.bells.length ≤ 3 ∧ x.bells.Nodup then
    (x.bells.mapM (ident1 12)).map fun l => ⟨allBells.filter l.contains, clamp 1 32 x.length⟩
  else none

/-- R104: a tune name: at most 12 characters, each of code 32 … 126. -/
def nameOk (name : List Nat) : Bool := name.length ≤ 12 && name.all fun c => 32 ≤ c && c ≤ 126

/-- R7: an occurrence is 1 … 4 or LAST. -/
def occurrenceOk : Occurrence → Bool
  | .nth n => 1 ≤ n && n ≤ 4
  | .last => true

/-- R7: the months, occurrences and weekdays of a carried DST rule are in range. -/
def ruleIdentitiesOk (r : DstRule) : Bool :=
  1 ≤ r.startMonth && r.startMonth ≤ 12 && 1 ≤ r.endMonth && r.endMonth ≤ 12 && occurrenceOk r.startOcc && occurrenceOk r.endOcc &&
    r.startDay ≤ 6 && r.endDay ≤ 6

/-- R7: minutes and offset clamped, the offset then rounded down to a multiple of 15. -/
def clampRule (r : DstRule) : DstRule :=
  { r with
    startMin := clamp 0 1439 r.startMin, endMin := clamp 0 1439 r.endMin, offset := clamp 15 120 r.offset / 15 * 15 }

/-- R160: a quiet window's minutes clamped. -/
def clampWindow (w : QuietWindow) : QuietWindow :=
  { w with start := clamp 0 1439 w.start, stop := clamp 0 1439 w.stop }

/-- R173: an entry of the dusk/dawn table clamped. -/
def clampSun (p : SunPair) : SunPair := ⟨clamp 0 1439 p.dusk, clamp 0 1439 p.dawn⟩

/-- R196: a watch target in range. -/
def readTarget : TargetBody → Option Target
  | .entry i => (ident0 96 i).map .entry
  | .bell n => (ident1 12 n).map .bell
  | .circuit n => (ident1 8 n).map .circuit
  | .dial n => (ident1 4 n).map .dial
  | .other _ => none

/-- R196: a watch mode. -/
def readMode : ModeBody → Option WatchMode
  | .fire => some .fire
  | .change => some .change
  | .other _ => none

/-- R190: the request code of a request (INSTALL WRITE's classes share one). -/
def requestCode : Request → Byte
  | .timeSet .. => 0x01#8
  | .timeRead => 0x02#8
  | .dstRuleWrite .. => 0x03#8
  | .dstRuleRead => 0x04#8
  | .restart => 0x05#8
  | .factoryClear => 0x06#8
  | .dialSet .. => 0x10#8
  | .dialStop .. => 0x11#8
  | .dialRun .. => 0x12#8
  | .dialRead .. => 0x13#8
  | .bellClaim .. => 0x18#8
  | .release .. => 0x19#8
  | .keepalive => 0x1A#8
  | .bellRead .. => 0x1B#8
  | .frameRead => 0x1C#8
  | .stationUnbar .. => 0x1D#8
  | .hammerClear .. => 0x20#8
  | .hammerTest .. => 0x21#8
  | .handStrike .. => 0x22#8
  | .toll .. => 0x23#8
  | .tollStop => 0x24#8
  | .strikePlanWrite .. => 0x25#8
  | .strikePlanRead => 0x26#8
  | .countersSnapshot .. => 0x27#8
  | .countersRead .. => 0x28#8
  | .hammerRead .. => 0x29#8
  | .engineRead => 0x2A#8
  | .tuneBegin .. => 0x30#8
  | .tuneSteps .. => 0x31#8
  | .tuneEnd .. => 0x32#8
  | .tuneAbort .. => 0x33#8
  | .tuneRead .. => 0x34#8
  | .play .. => 0x35#8
  | .tuneStop => 0x36#8
  | .playerRead => 0x37#8
  | .swingStart .. => 0x40#8
  | .swingStop .. => 0x41#8
  | .jog .. => 0x42#8
  | .swingRead .. => 0x43#8
  | .scheduleWrite .. => 0x48#8
  | .scheduleDelete .. => 0x49#8
  | .scheduleRead .. => 0x4A#8
  | .scheduleStatus => 0x4B#8
  | .quietWrite .. => 0x4C#8
  | .quietRead .. => 0x4D#8
  | .floodForce .. => 0x50#8
  | .floodClear .. => 0x51#8
  | .floodRead .. => 0x52#8
  | .floodStatus => 0x53#8
  | .floodPlanWrite .. => 0x54#8
  | .floodPlanRead .. => 0x55#8
  | .duskTableWrite .. => 0x56#8
  | .duskTableRead => 0x57#8
  | .gateRead => 0x58#8
  | .installWriteDial .. | .installWriteBell .. | .installWriteFrame .. | .installWriteHammer .. | .installWritePlayer ..
  | .installWriteDrive .. | .installWriteSchedule .. | .installWriteCircuit .. | .installWriteGate ..
  | .installWriteLink .. | .installWriteOther .. => 0x60#8
  | .permitWrite .. => 0x61#8
  | .permitRead => 0x62#8
  | .watchSet .. => 0x63#8
  | .watchClear .. => 0x64#8
  | .watchRead => 0x65#8
  | .statusRead => 0x66#8

/-- R190: the requests that carry no field, so that their body is empty (log 49). -/
def emptyRequests : List Request :=
  [.timeRead, .dstRuleRead, .restart, .factoryClear, .keepalive, .frameRead, .tollStop, .strikePlanRead, .engineRead,
   .tuneStop, .playerRead, .scheduleStatus, .floodStatus, .duskTableRead, .gateRead, .permitRead, .watchRead, .statusRead]

/-- R190: the request that a kind without fields is, whatever its sender says of it. -/
def emptyRequest (kind : Byte) : Option Request := emptyRequests.find? fun r => requestCode r == kind

/-- R190: the length of a body fits its kind, as far as the rules fix it: none for a kind without fields, a class and
an index at least for INSTALL WRITE, a byte at least for the others (log 49). -/
def bodyFits (kind : Byte) (length : Nat) : Bool :=
  if (emptyRequest kind).isSome then length == 0
  else if kind == 0x60#8 then 2 ≤ length
  else 1 ≤ length

/-- R190: the request that a good frame spells: none where its body does not fit its kind; for a kind without fields the
one that the kind is; else the one whose fields the sender gives (log 11). -/
def spelled (kind : Byte) (length : Nat) (carried : Option Request) : Option Request :=
  if bodyFits kind length then emptyRequest kind <|> carried else none

end Sys2Proof.Machine
end

