-- ==== Sys2Proof/Machine/Flags.lean ====
section
/-! DEFINITION. The states and flags the rules compute from the records: a dial's target, distance, state and stop
reasons; whether a moment is silenced; dusk, dawn and trigger minutes; a circuit's desired level and restrike; a
strike's fitness. -/

namespace Sys2Proof.Machine

/-! ### Dials (R24, R26 to R28) -/

/-- The step in seconds. -/
def DialStep.secs : DialStep → Nat
  | .s30 => 30
  | .s60 => 60

/-- R24: N = 43200 / s. -/
def Dial.n (d : Dial) : Nat := 43200 / d.step.secs

/-- R24: the hold limit in steps. -/
def Dial.holdSteps (d : Dial) : Nat := d.hold * 60 / d.step.secs

/-- R26: the target at local seconds of day. -/
def Dial.target (d : Dial) (localSecs : Nat) : Nat := localSecs % 43200 / d.step.secs

/-- R26: the distance from P forward to the target. -/
def Dial.distance (d : Dial) (localSecs : Nat) : Nat := (d.target localSecs + d.n - d.pos % d.n) % d.n

/-- R28: the stop reasons that hold. -/
def Dial.stops (d : Dial) (v : Validity) : StopReasons := ⟨!d.runEnable, !d.known, v == .unset⟩

/-- R28: some stop reason holds. -/
def StopReasons.any (r : StopReasons) : Bool := r.stopRequested || r.positionUnknown || r.timeUnset

/-- R27, R28: the state of the dial, ABSENT for one not present (R41). -/
def Dial.stateAt (d : Dial) (tb : TimeBase) : DialState :=
  if !d.present then .absent
  else if d.fault != .none then .fault
  else if (d.stops tb.validity).any then .stopped
  else
    let dist := d.distance tb.loc.secs
    if dist = 0 then .inStep
    else if dist < d.n - d.holdSteps then .catchingUp
    else .holding

/-- R30: F has passed since the last impulse start. -/
def Dial.fastPassed (d : Dial) (timer : Nat) : Bool :=
  match d.lastStart with
  | none => true
  | some t => t + d.fast * 1000 ≤ timer

/-! ### Quiet windows (R161) -/

/-- The weekday is in a days mask. -/
def dayIn (days : BitVec 7) (w : Nat) : Bool := days.getLsbD w

/-- R161: the window contains the local moment of minute `m` of date `d`. -/
def windowContains (w : QuietWindow) (d : Date) (m : Nat) : Bool :=
  let today := dayIn w.days (weekday d)
  let before := dayIn w.days (weekday (prevDate d))
  w.enabled &&
    (if w.start < w.stop then today && w.start ≤ m && m < w.stop
     else if w.stop < w.start then (today && w.start ≤ m) || (before && m < w.stop)
     else (today && w.start ≤ m) || (before && m < w.start))

/-- The attributes of a quiet window (R160). -/
inductive Quiet where
  | hours | quarters | scheduled
  deriving DecidableEq, Repr

/-- R160: the window carries the attribute. -/
def windowCarries (w : QuietWindow) : Quiet → Bool
  | .hours => w.hours
  | .quarters => w.quarters
  | .scheduled => w.scheduled

/-- R161: the lowest enabled window that contains the present local moment and carries the attribute, if there is one. DESIGN
CHOICE (log 70): the local time is the one that the time base counts, also at the millisecond of a minute boundary whose
MINUTE_EVENT still waits. -/
def State.silencedBy (s : State) (a : Quiet) : Option (Fin 8) :=
  allEighths.find? fun i => windowContains s.windows[i] s.tb.loc.date s.tb.loc.minute && windowCarries s.windows[i] a

/-- R161: the present local moment is silenced for the attribute. -/
def State.silenced (s : State) (a : Quiet) : Bool := (s.silencedBy a).isSome

/-! ### Dusk and dawn (R174) -/

/-- R174: the entry of the dusk/dawn table that governs a date. -/
def sunIndex (d : Date) : Fin 24 := ⟨(2 * (d.month - 1) + (if 16 ≤ d.day then 1 else 0)) % 24, Nat.mod_lt _ (by decide)⟩

/-- R174: the standard value for a date, from the values of the governing entry and of the next. -/
def interpolate (e0 e1 : Nat) (d : Date) : Int :=
  let k : Int := if 16 ≤ d.day then (d.day : Int) - 16 else (d.day : Int) - 1
  let l : Int := if 16 ≤ d.day then (monthLength d.year d.month : Int) - 15 else 15
  let delta : Int := (e1 : Int) - e0
  e0 + (2 * delta * k + l) / (2 * l)

/-- R174: standard dusk of a date. -/
def State.stdDusk (s : State) (d : Date) : Int :=
  interpolate s.duskTable[sunIndex d].dusk s.duskTable[sunIndex d + 1].dusk d

/-- R174: standard dawn of a date. -/
def State.stdDawn (s : State) (d : Date) : Int :=
  interpolate s.duskTable[sunIndex d].dawn s.duskTable[sunIndex d + 1].dawn d

/-- R174: the summer offset in force at 12:00 standard on a date. -/
def State.noonOffset (s : State) (d : Date) : Nat := seasonOffset (decideSummer s.tb.rule d 720) s.tb.rule.offset

/-- R152, R175: the sum with the offset is clamped to 0 … 1439. -/
def clampMinute (m : Int) : Nat := (max 0 (min 1439 m)).toNat

/-- R152, R175: the trigger minute for a local date. -/
def State.triggerMinute (s : State) (t : Trigger) (d : Date) : Nat :=
  match t with
  | .time m => m
  | .dusk o => clampMinute (s.stdDusk d + s.noonOffset d + o)
  | .dawn o => clampMinute (s.stdDawn d + s.noonOffset d + o)

/-- R153: a date lies in a date window. -/
def inWindow (w : Option (MonthDay × MonthDay)) (d : Date) : Bool :=
  match w with
  | none => true
  | some (a, b) =>
    let c := d.month * 100 + d.day
    if monthDayKey a ≤ monthDayKey b then monthDayKey a ≤ c && c ≤ monthDayKey b
    else monthDayKey a ≤ c || c ≤ monthDayKey b

/-- R153: a DEFINED entry applies on a local date. -/
def Entry.applies (e : Entry) (d : Date) : Bool :=
  match e.oneShot with
  | some o => o == d
  | none => dayIn e.days (weekday d) && inWindow e.window d

/-- R154: last-fired is none or earlier than the date. -/
def Entry.unfired (e : Entry) (d : Date) : Bool := e.lastFired.all fun l => dateKey l < dateKey d

/-- R154: the four conditions for an entry to fire at minute `m` of local date `d`. -/
def State.fires (s : State) (e : Entry) (d : Date) (m : Nat) : Bool :=
  e.enabled && s.triggerMinute e.trigger d == m && e.applies d && e.unfired d

/-! ### Flood plan and circuits (R165, R167, R175) -/

/-- R175: the plan entry applies on a local date. -/
def FloodPlan.applies (p : FloodPlan) (d : Date) : Bool := dayIn p.days (weekday d) && inWindow p.window d

/-- R175: the entry's interval for today, or for the date before, contains minute `m` of local date `d`. -/
def State.planCovers (s : State) (p : FloodPlan) (d : Date) (m : Nat) : Bool :=
  let y := prevDate d
  let on := s.triggerMinute p.on d
  let off := s.triggerMinute p.off d
  let onY := s.triggerMinute p.on y
  let offY := s.triggerMinute p.off y
  (p.applies d && (if on < off then on ≤ m && m < off else on ≤ m)) || (p.applies y && offY ≤ onY && m < offY)

/-- R175: the enabled plan entries that hold a circuit's plan-desired ON at minute `m` of local date `d`. -/
def State.plansOn (s : State) (c : CircuitNo) (d : Date) (m : Nat) : List (Fin 16) :=
  allPlans.filter fun i =>
    s.floodPlan[i].enabled && s.floodPlan[i].circuits.getLsbD c.val && s.planCovers s.floodPlan[i] d m

/-- R165, R175: the plan-desired level that the evaluation gives now. -/
def State.planLevel (s : State) (c : CircuitNo) : Bool :=
  s.circuits[c].present && s.tb.validity != .unset && !(s.plansOn c s.tb.loc.date s.tb.loc.minute).isEmpty

/-- Section 8.2: the effective desired level. -/
def Circuit.desired (c : Circuit) : Bool :=
  match c.force with
  | some f => f.level
  | none => c.planOn

/-- R167: at least the restrike delay has passed since last-open. -/
def Circuit.delayPassed (c : Circuit) (timer : Nat) : Bool := c.lastOpen + (c.restrike : Int) * 60000 ≤ timer

/-! ### Strikes (R76, R78) -/

/-- R76: the holder that fits a source. -/
def StrikeSource.fits : StrikeSource → Holder → Bool
  | .hour, h => h == .clock
  | .tune _, h => h == .clock
  | .tollEntry _ _, h => h == .clock
  | .tollStation _ n, h => h == .station n
  | .hand n _, h => h == .station n
  | .test n _, h => h == .station n

/-- R76: the fit test, at the due time too for a drive that is in LIFT (R98, log 55). -/
def State.fit (s : State) (x : Strike) : Bool :=
  s.bells[x.bell].present && s.hammers[x.bell].fitted && s.hammers[x.bell].ok && s.swingOf x.bell == .down &&
    s.engaged x.bell && x.source.fits s.bells[x.bell].holder

/-- R73, R78: the bell's recovery has passed since its last pulse start and no pulse is in flight on it. -/
def State.recovered (s : State) (b : BellNo) : Bool :=
  !s.busy b && s.hammers[b].lastPulse + s.hammers[b].recovery ≤ s.timer

/-- R78: the strike is ready. -/
def State.ready (s : State) (x : Strike) : Bool := x.fitted && x.due ≤ s.now && s.recovered x.bell

/-! ### The tune store (R102, R103) -/

/-- R102: a slot's reservation. -/
def Slot.reserved (x : Slot) : Nat :=
  match x.state with
  | .empty => 0
  | _ => x.count

/-- R102: used steps of the pool. -/
def State.poolUsed (s : State) : Nat := (allSlots.map fun i => s.slots[i].reserved).sum

/-- R102: free steps of the pool. -/
def State.poolFree (s : State) : Nat := Config.poolSize - s.poolUsed

/-- R103: a length of eighth-beats in ms, halves rounded up. -/
def stepTime (tempo length : Nat) : Nat := (2 * length * 7500 + tempo) / (2 * tempo)

/-- R101: the written steps of a slot. -/
def Slot.written (x : Slot) : List TuneStep := x.steps.filterMap id

/-- R103: one repeat of a slot in ms. -/
def Slot.repeatTime (x : Slot) : Nat := (x.written.map fun t => stepTime x.tempo t.length).sum

/-- R103: play time with `r` repeats. -/
def Slot.playTime (x : Slot) (r : Nat) : Nat := r * x.repeatTime + (r - 1) * stepTime x.tempo 8

/-- R101: the bell set, ascending. -/
def Slot.bellSet (x : Slot) : List BellNo := allBells.filter fun b => x.written.any fun t => t.bells.contains b

end Sys2Proof.Machine
end

