-- ==== Sys2Proof/Machine/Notices.lean ====
section
/-! DEFINITION. How SL queues notices on the links and finds the watches an event hits (R194 to R197). -/

namespace Sys2Proof.Machine

/-- R192: an idle transmitter with no reply owed or waiting begins the head notice. -/
def Link.pumpNotice (l : Link) : Link :=
  match l.tx, l.reply, l.notices with
  | none, .empty, n :: rest =>
      { l with tx := some (.notice n), notices := rest, counts := { l.counts with sent := bump16 l.counts.sent } }
  | _, _, _ => l

/-- R194, R195: add a notice in its own right; a full queue overflows into a RESYNC. -/
def Link.push (n : Notice) (l : Link) : Link :=
  if l.notices.length < Config.noticeMax then { l with notices := l.notices ++ [n] }.pumpNotice
  else
    let c := bump16 l.counts.resyncs
    { l with notices := [.resync l.notices.length c, n], counts := { l.counts with resyncs := c } }.pumpNotice

/-- The notice is a CHANGED of this item. -/
def Notice.isChanged (item : Item) : Notice → Bool
  | .changed i _ => i == item
  | _ => false

/-- The notice is a FRAME ERROR. -/
def Notice.isFrameError : Notice → Bool
  | .frameError _ _ => true
  | _ => false

/-- R188: a waiting FRAME ERROR takes the newer cause, its count rising by one up to 255. -/
def Notice.absorbDiscard (cause : Discard) : Notice → Notice
  | .frameError _ c => .frameError cause (min 255 (c + 1))
  | n => n

/-- R188, R194: queue a notice on a link; a disabled link gets none, and a waiting CHANGED of the item or a waiting FRAME
ERROR absorbs the new one. -/
def Link.queue (n : Notice) (l : Link) : Link :=
  if l.enabled then
    match n with
    | .changed item w =>
        if l.notices.any (Notice.isChanged item) then
          { l with notices := l.notices.map fun x => if x.isChanged item then .changed item w else x }
        else l.push n
    | .frameError cause _ =>
        if l.notices.any Notice.isFrameError then { l with notices := l.notices.map (Notice.absorbDiscard cause) }
        else l.push n
    | _ => l.push n
  else l

/-- Queue a notice on one station's link. -/
def notifyOne (n : Station) (x : Notice) (s : State) : State := s.onLink n (Link.queue x)

/-- Queue a notice on every link. -/
def notifyAll (x : Notice) (s : State) : State := forAll allStations (fun n => notifyOne n x) s

/-- Queue a notice on every link but one. -/
def notifyOthers (k : Station) (x : Notice) (s : State) : State :=
  forAll (allStations.filter (· != k)) (fun n => notifyOne n x) s

/-- R194: CHANGED goes to every link but the writer's, and to every link when the change comes from the part. -/
def announce (item : Item) (w : Writer) (s : State) : State :=
  match w with
  | .station k => notifyOthers k (.changed item w) s
  | .part => notifyAll (.changed item w) s

/-- R197: queue a WATCH HIT for each slot of a station that watches the target in the mode, by ascending slot (log
57). -/
def watchStation (target : Target) (mode : WatchMode) (event : WatchEvent) (w : Option Writer) (n : Station) (s : State) :
    State :=
  forAll [0, 1, 2, 3]
    (fun (i : Fin 4) t =>
      if t.watches[n][i] = some ⟨target, mode⟩ then notifyOne n (.watchHit i target mode event w s.tb.loc) t else t) s

/-- R197: an event that FIRE watches on the target hit on. -/
def fireWatch (target : Target) (event : WatchEvent) (s : State) : State :=
  forAll allStations (watchStation target .fire event none) s

/-- R197: a write that CHANGE watches of every party but the writer hit on. -/
def changeWatch (target : Target) (event : WatchEvent) (w : Writer) (s : State) : State :=
  forAll (allStations.filter (fun n => w != .station n)) (watchStation target .change event (some w)) s

end Sys2Proof.Machine
end

