-- ==== Sys2Proof/Machine/Dials.lean ====
section
/-! DEFINITION. The Dial Driver (02): impulses, recovery pairs, cuts, current faults, the sync contact, and the
decision that follows each change of the target or of the position. -/

namespace Sys2Proof.Machine

/-! ### Counting (R31, R37) -/

/-- R37: a counted impulse moves P from 10 to 11, and an unsatisfied expectation is an absence. -/
def Dial.closeExpectation (d : Dial) : Dial :=
  match d.expect with
  | .unsatisfied =>
      let n := min 2 (d.absent + 1)
      { d with expect := .closed, absent := n, syncWarn := d.syncWarn || n == 2 }
  | _ => { d with expect := .closed }

/-- R37: the sync expectation after a counted impulse moved P from `old`. -/
def Dial.expectAfter (old : Nat) (d : Dial) : Dial :=
  if !d.syncFitted then d
  else if d.pos = d.n - 10 then { d with expect := .unsatisfied }
  else if old = 10 ∧ d.pos = 11 then d.closeExpectation
  else d

/-- R31: an impulse is counted: P advances by one, and the last polarity is the one sent. -/
def Dial.counted (pol : Polarity) (d : Dial) : Dial :=
  Dial.expectAfter d.pos { d with pos := (d.pos + 1) % d.n, lastPol := pol }

/-- The polarity in which an impulse drives its bridge (R31, R32); none in the gap of a pair. -/
def ImpulseKind.drives : ImpulseKind → Option Polarity
  | .single pol => some pol
  | .pairPos => some .pos
  | .pairGap => none
  | .pairNeg => some .neg

/-- R33: a pulse is cut with half its width or more delivered and no LOAD seen yet: it is not counted, and leaves the
polarity it would have left had it run to the end, which is the one sent if LOAD had come and UNKNOWN if it had ended
as OPEN (a free value, log 29). -/
def Dial.cutUnseen (dial : DialNo) (timer : Nat) (sent : Polarity) (d : Dial) : Dial :=
  { d with lastPol := if Config.wouldSeeLoad dial.val timer then sent else .unknown }

/-- R33: a pulse cut with half its width or more delivered and LOAD seen; only a single impulse and the NEG pulse of a
pair are counted. -/
def Dial.cutSeen (kind : ImpulseKind) (d : Dial) : Dial :=
  match kind with
  | .single pol => d.counted pol
  | .pairPos => { d with lastPol := .pos }
  | .pairGap => d
  | .pairNeg => d.counted .neg

/-- R33: a pulse cut with less than half its width delivered. -/
def Dial.cutEarly (kind : ImpulseKind) (d : Dial) : Dial :=
  match kind with
  | .pairNeg => { d with lastPol := .pos }
  | .pairPos => { d with lastPol := .unknown }
  | .single _ | .pairGap => d

/-- R33: the impulse in flight is cut short. -/
def Dial.cut (dial : DialNo) (timer : Nat) (d : Dial) : Dial :=
  match d.inFlight with
  | none => d
  | some i =>
    let d' := { d with inFlight := none }
    match i.kind.drives with
    | none => { d' with lastPol := .pos }
    | some sent =>
        if 2 * (timer - i.start) < i.width then d'.cutEarly i.kind
        else if i.load then d'.cutSeen i.kind
        else d'.cutUnseen dial timer sent

/-! ### The decision (R26 to R30, R32) -/

/-- The state of dial `d` now. -/
def State.dialState (s : State) (d : DialNo) : DialState := s.dials[d].stateAt s.tb

/-- R29: report a state to SL. -/
def reportDial (d : DialNo) (st : DialState) (s : State) : State :=
  let x := s.dials[d]
  let t := x.target s.tb.loc.secs
  let s := s.onDial d fun x => { x with reported := some st, holdBack := false }
  fireWatch (.dial d) (.dial st x.pos t (x.distance s.tb.loc.secs)) s

/-- R29: the CATCHING UP of normal running is held back; `ended` says that the impulse answering it has just ended. The
state it comes from is the reported one, also over a time in which the dial was absent (log 50). -/
def Dial.holdsBack (d : Dial) (st : DialState) (dist : Nat) (ended : Bool) : Bool :=
  st == .catchingUp && ((d.holdBack && !ended) || (!d.holdBack && d.reported == some .inStep && dist == 1))

/-- R29: report the state when it differs from the one reported. -/
def reviewDial (d : DialNo) (ended : Bool) (s : State) : State :=
  let x := s.dials[d]
  let st := s.dialState d
  if x.reported = some st then s.onDial d fun x => { x with holdBack := false }
  else if x.holdsBack st (x.distance s.tb.loc.secs) ended then s.onDial d fun x => { x with holdBack := true }
  else reportDial d st s

/-- R30, R32: the impulse that a dial starts. -/
def Dial.startImpulse (timer : Nat) (d : Dial) : Dial :=
  let kind := match d.lastPol with
    | .pos => .single .neg
    | .neg => .single .pos
    | .unknown => .pairPos
  { d with inFlight := some ⟨kind, timer, d.width, false⟩, lastStart := some timer }

/-- R30: the conditions for an impulse to start. -/
def State.mayImpulse (s : State) (d : DialNo) : Bool :=
  s.dialState d == .catchingUp && s.dials[d].inFlight.isNone && s.dials[d].fastPassed s.timer

/-- R30: start an impulse if one may start. -/
def tryImpulse (d : DialNo) (s : State) : State :=
  if s.mayImpulse d then s.onDial d (Dial.startImpulse s.timer) else s

/-- R27, R29, R30: the state of a present dial is decided afresh; `ended` says that an impulse has just ended, by its
width, a fault or a cut (log 34). For an absent dial no state is decided, and no report is held back. -/
def decideDial (d : DialNo) (ended : Bool) (s : State) : State :=
  if s.dials[d].present then tryImpulse d (reviewDial d ended s)
  else s.onDial d fun x => { x with holdBack := false }

/-- R43: every present dial is reconciled with the local time. -/
def reconcileDials (s : State) : State := forAll allDials (fun d => decideDial d false) s

/-! ### The sync contact (R35, R36) -/

/-- R35: the discrepancy of P. -/
def Dial.discrepancy (d : Dial) : Int := if 2 * d.pos < d.n then d.pos else (d.pos : Int) - d.n

/-- R35: a closing is recorded. -/
def Dial.recordClosure (now : DayTime) (d : Dial) : Dial :=
  { d with lastClosure := some ⟨now, if d.known then some d.discrepancy else none⟩ }

/-- R36: a closing within ten steps satisfies the expectation and clears the warning. -/
def Dial.confirmSync (d : Dial) : Dial :=
  { d with expect := if d.expect = .closed then .closed else .satisfied, absent := 0, syncWarn := false }

/-- The states in which a closing is judged (R36). -/
def DialState.judged : DialState → Bool
  | .inStep | .catchingUp | .holding => true
  | _ => false

/-- R36: a closing is judged by its discrepancy; a FAULT goes before the FIRE hit of the dial's report (log 57). -/
def judgeClosing (d : DialNo) (s : State) : State :=
  let x := s.dials[d]
  let v := x.discrepancy
  if -10 ≤ v ∧ v ≤ 10 then
    let s := s.onDial d Dial.confirmSync
    if v ≠ 0 ∧ x.autoCorrect then
      changeWatch (.dial d) .corrected .part (s.onDial d fun x => { x with pos := 0 })
    else s
  else notifyAll (.fault (.dial d .sync v)) (s.onDial d fun x => { x with fault := .sync })

/-- R35: a closing is taken; what it changes is decided by the caller. No state is decided for an absent dial (R24), so
its closing is recorded only. -/
def takeClosing (d : DialNo) (s : State) : State :=
  let judged := s.dials[d].present && (s.dialState d).judged
  let s := s.onDial d fun x => { x.recordClosure s.tb.loc with heldClosing := false }
  if judged then judgeClosing d s else s

/-- R35: a closing held during an impulse is taken when the impulse has ended. -/
def takeHeld (d : DialNo) (s : State) : State := if s.dials[d].heldClosing then takeClosing d s else s

/-- R35: a closing of a contact that is fitted; of several in one impulse one is held (log 59). DESIGN CHOICE (log 69): a
closing that meets the end of a recovery pair and is taken after it may find the next impulse started already (R30); it
is then held by that impulse (R35), and judged against the P which that impulse leaves. -/
def closingReported (d : DialNo) (s : State) : State :=
  let x := s.dials[d]
  if !x.syncFitted then s
  else if x.inFlight.isSome then s.onDial d fun x => { x with heldClosing := true }
  else decideDial d false (takeClosing d s)

/-! ### The ends of an impulse (R31 to R34) -/

/-- R33, R35: an event cuts the impulse in flight, and a held closing is then taken, judged by the state at that moment
(log 52). -/
def cutDial (d : DialNo) (s : State) : State :=
  if s.dials[d].inFlight.isSome then takeHeld d (s.onDial d (Dial.cut d s.timer)) else s

/-- R34: a current fault ends the impulse; its FAULT goes before the FIRE hit of the dial's report (log 57). A closing
held during the impulse is taken before the state is decided and reported (log 52). -/
def currentFault (d : DialNo) (cause : DialFault) (s : State) : State :=
  let s := s.onDial d fun x => { x with inFlight := none, fault := cause, lastPol := .unknown }
  let s := notifyAll (.fault (.dial d cause s.dials[d].pos)) s
  decideDial d true (takeHeld d s)

/-- R31, R32: an impulse ends counted. DESIGN CHOICE (log 52): R31 and R35 put both at the impulse's end; a closing held
during it is taken first, and the state is decided and reported once, after it (R29). -/
def impulseCounted (d : DialNo) (pol : Polarity) (s : State) : State :=
  decideDial d true (takeHeld d (s.onDial d fun x => { x with inFlight := none }.counted pol))

/-- R31, R32: a pulse has run its width. -/
def pulseRun (d : DialNo) (i : Impulse) (s : State) : State :=
  if !i.load then currentFault d .openCircuit s
  else
    match i.kind with
    | .single pol => impulseCounted d pol s
    | .pairPos => s.onDial d fun x => { x with inFlight := some { i with kind := .pairGap } }
    | .pairGap => s
    | .pairNeg => impulseCounted d .neg s

/-- A pulse drives the bridge (the gap of a pair does not). -/
def Impulse.driving (i : Impulse) : Bool := i.kind != .pairGap

/-- R31: a pulse of the dial has run its width. -/
def Dial.pulseEnded (d : Dial) (timer : Nat) : Option Impulse :=
  match d.inFlight with
  | some i => if i.driving && decide (i.start + i.width ≤ timer) then some i else none
  | none => none

/-- R32: F has passed since the POS start, and the NEG pulse begins. -/
def Dial.gapEnded (d : Dial) (timer : Nat) : Bool :=
  match d.inFlight with
  | some i => i.kind == .pairGap && decide (i.start + d.fast * 1000 ≤ timer)
  | none => false

/-- R32: the NEG pulse of a pair. -/
def Dial.startNeg (timer : Nat) (d : Dial) : Dial := { d with inFlight := some ⟨.pairNeg, timer, d.width, false⟩ }

/-- A pulse is driving the dial's bridge. -/
def Dial.drivingNow (d : Dial) : Bool := d.inFlight.any Impulse.driving

/-- R31: the current sense reports LOAD. -/
def Dial.seeLoad (d : Dial) : Dial := { d with inFlight := d.inFlight.map fun i => { i with load := true } }

end Sys2Proof.Machine
end

