-- ==== Sys2Proof/Machine/BellFrame.lean ====
section
/-! DEFINITION. The Bell Frame (03): claims, grants, passing a bell on, the hold lease and the lapse, the frame start
condition. -/

namespace Sys2Proof.Machine

/-! ### The hold lease (R62, R65) -/

/-- R62: a grant that gives a station a bell while its lease is IDLE starts the lease. -/
def startLeaseFor (n : Station) (s : State) : State :=
  s.onLease n fun l => if l.lease = .idle then { l with lease := .first (s.timer + Config.firstKeepMs) } else l

/-- R62: the lease becomes IDLE when the station has no bell as holder or as behalf. -/
def endLeaseIfNone (n : Station) (s : State) : State :=
  if s.holdsAny n then s else s.onLease n fun l => { l with lease := .idle }

/-- R62: the lease rule for whoever let go a bell. -/
def endLeaseOf (h : Holder) (s : State) : State :=
  match h with
  | .station n => endLeaseIfNone n s
  | _ => s

/-- R62: the lease rule for a behalf that has ended. -/
def endLeaseOfBehalf (o : Option Station) (s : State) : State :=
  match o with
  | some n => endLeaseIfNone n s
  | none => s

/-! ### Changing the holder (R48, R57) -/

/-- R48: replace the holder and behalf in one step and report a change of holder to SL, HE, TP and SC, with
the behalf after the change and a cause (log 38). -/
def setHolder (b : BellNo) (h : Holder) (behalf : Option Station) (cause : HolderCause) (s : State) : Run :=
  let old := s.bells[b].holder
  let s := s.onBell b fun x => { x with holder := h, behalf := behalf }
  if old = h then quiet s
  else raise (fireWatch (.bell b) (.holder old h behalf cause) s) [.bellChanged b true]

/-- R57: a grant makes the claimant the holder; `fromList` says that the claim came from the pending list. The FIRE
hits of the change of holder go before the BELL GRANTED (log 57). -/
def grantClaim (b : BellNo) (c : Claim) (fromList : Bool) (cause : HolderCause) (s : State) : Run :=
  match c.claimant with
  | .station n =>
      ((setHolder b (.station n) none cause s).thenDo (startLeaseFor n)).thenDo fun s =>
        if fromList then notifyOne n (.bellGranted b c.tag .claim) s else s
  | .swing =>
      let r := setHolder b .swing c.behalf cause s
      let r := match c.behalf with
        | some n => r.thenDo (startLeaseFor n)
        | none => r
      r.andThen fun s => raise s [.swingGrant b]

/-- R56 case 3, R58: the head of the pending list leaves it and is granted; `cause` is that of the letting go (log 38). -/
def grantHead (b : BellNo) (cause : HolderCause) (s : State) : Run :=
  match s.bells[b].waiting with
  | [] => quiet s
  | c :: rest =>
      (raise (s.onBell b fun x => { x with waiting := rest }) [.bellChanged b false]).andThen (grantClaim b c true cause)

/-- R56: a bell that is let go is passed on; `swingDown` says that SWING held it and its drive has reported DOWN. -/
def passOn (b : BellNo) (swingDown : Bool) (cause : HolderCause) (s : State) : Run :=
  let old := s.bells[b]
  let r :=
    match swingDown, old.behalf with
    | true, some n =>
        (setHolder b (.station n) none .swingEnd s).thenDo (notifyOne n (.bellGranted b none .swingEnded))
    | _, _ =>
        if s.inSequence b then setHolder b .clock none cause s
        else if old.waiting.isEmpty then setHolder b .clock none cause s
        else grantHead b cause s
  (r.thenDo (endLeaseOf old.holder)).thenDo (endLeaseOfBehalf old.behalf)

/-- R58: HE has cleared a bell's last mark. -/
def sequenceReleased (b : BellNo) (s : State) : Run :=
  if s.inSequence b then quiet s
  else if s.bells[b].holder = .clock then grantHead b .sequenceEnd s
  else quiet s

/-- R59: the bell's drive has reached DOWN. -/
def downReported (b : BellNo) (s : State) : Run :=
  if s.bells[b].holder = .swing then passOn b true .swingEnd s else quiet s

/-! ### Claims (R52 to R55, R61) -/

/-- What BF answers to a claim. -/
inductive ClaimOutcome where
  | granted
  | pending (place : Nat)
  | alreadyHeld
  | busy
  | owned (n : Station)
  | noSuch
  | barred
  deriving DecidableEq, Repr

/-- A claim decided, with what it raises. -/
structure Claimed where
  outcome : ClaimOutcome
  run : Run

/-- R55: append a claim, or leave the claimant's waiting claim in its place. -/
def appendClaim (b : BellNo) (c : Claim) (s : State) : Claimed :=
  let l := s.bells[b].waiting
  match l.findIdx? (fun x => x.claimant == c.claimant) with
  | some i => ⟨.pending (i + 1), quiet s⟩
  | none =>
      ⟨.pending (l.length + 1),
        raise (s.onBell b fun x => { x with waiting := l ++ [{ c with since := s.timer }] }) [.bellChanged b false]⟩

/-- R54: a SWING claim refused OWNED from a schedule entry is counted on the bell. -/
def countSkipped (b : BellNo) (c : Claim) (s : State) : State :=
  match c.claimant, c.origin with
  | .swing, .entry _ => s.onBell b fun x => { x with skipped := bump16 x.skipped }
  | _, _ => s

/-- R53, R54: decide a claim by the holder it finds. -/
def decideClaim (b : BellNo) (c : Claim) (s : State) : Claimed :=
  match s.bells[b].holder with
  | .clock =>
      if s.inSequence b then appendClaim b c s else ⟨.granted, grantClaim b c false .claim s⟩
  | .swing =>
      match c.claimant with
      | .swing => ⟨.alreadyHeld, quiet s⟩
      | .station n => if s.bells[b].behalf = some n then ⟨.busy, quiet s⟩ else appendClaim b c s
  | .station x =>
      match c.claimant with
      | .station n =>
          if n = x then ⟨.alreadyHeld, quiet s⟩ else ⟨.owned x, quiet s⟩
      | .swing =>
          if c.behalf = some x then
            (if s.inSequence b then ⟨.busy, quiet s⟩ else ⟨.granted, grantClaim b c false .claim s⟩)
          else ⟨.owned x, quiet (countSkipped b c s)⟩

/-- R52: steps 3 and 4, then the decision; step 4 applies to the station named as origin. -/
def claimBell (b : BellNo) (c : Claim) (s : State) : Claimed :=
  let barred := match c.origin with
    | .station n => s.leases[n].barred
    | .entry _ | .none => false
  if !s.bells[b].present then ⟨.noSuch, quiet s⟩
  else if barred then ⟨.barred, quiet s⟩
  else decideClaim b c s

/-- R60, R61: take a claimant's waiting claim out of a bell's pending list. -/
def removeClaim (b : BellNo) (who : Claimant) (s : State) : Run :=
  if s.bells[b].waiting.any (fun c => c.claimant == who) then
    raise (s.onBell b fun x => { x with waiting := x.waiting.filter fun c => c.claimant != who }) [.bellChanged b false]
  else quiet s

/-! ### Release and lapse (R60, R64, R65) -/

/-- R60: what a station has on a bell, in the order of the table's rows. -/
inductive Has where
  | pending | held | behalf | nothing
  deriving DecidableEq, Repr

/-- R60: what station `n` has on the bell. -/
def State.has (s : State) (n : Station) (b : BellNo) : Has :=
  if s.bells[b].waiting.any (fun c => c.claimant == .station n) then .pending
  else if s.bells[b].holder = .station n then .held
  else if s.bells[b].holder = .swing ∧ s.bells[b].behalf = some n then .behalf
  else .nothing

/-- R60: behalf becomes none and the swing goes on. -/
def dropBehalf (b : BellNo) (n : Station) (s : State) : State :=
  endLeaseIfNone n (s.onBell b fun x => { x with behalf := none })

/-- R64: what a lapsing station had on a bell, for its BELL TAKEN BACK; none where it had nothing. -/
def lapseHad (s : State) (n : Station) (b : BellNo) : Option Had :=
  if s.bells[b].holder = .station n then some .held
  else if s.bells[b].holder = .swing ∧ s.bells[b].behalf = some n then some .behalf
  else if s.bells[b].waiting.any (fun c => c.claimant == .station n) then some .pending
  else none

/-- R64 step 1. -/
def lapseHeld (n : Station) (b : BellNo) (s : State) : Run :=
  if s.bells[b].holder = .station n then passOn b false .lapse s else quiet s

/-- R64 step 2. -/
def lapseBehalf (n : Station) (b : BellNo) (s : State) : Run :=
  if s.bells[b].holder = .swing ∧ s.bells[b].behalf = some n then
    let s' := s.onBell b fun x => { x with behalf := none }
    match s.driveOf b with
    | some d => raise s' [.lapseStop d]
    | none => quiet s'
  else quiet s

/-- R64 step 4, for a bell that the station had before the lapse in state `s0`. -/
def takenBack (s0 : State) (n : Station) (b : BellNo) (s : State) : State :=
  match lapseHad s0 n b with
  | some had => notifyAll (.bellTakenBack b n had s.bells[b].holder .lapse) s
  | none => s

/-- R65: the lapse count after a lapse, and the bar. -/
def countLapse (limit : Nat) (l : StationLease) : StationLease :=
  let c := min 15 (l.lapses + 1)
  { lease := .idle, lapses := c, barred := l.barred || (limit != 0 && limit ≤ c) }

/-- R64, R65: station `n` lapses; the BELL TAKEN BACK of the bells of all three steps go out by ascending number
(log 56). -/
def lapse (n : Station) (s : State) : Run :=
  let r := forEach allBells (lapseHeld n) s
  let r := r.andThen (forEach allBells (lapseBehalf n))
  let r := r.andThen (forEach allBells fun b => removeClaim b (.station n))
  let r := r.thenDo (forAll allBells (takenBack s n))
  r.thenDo fun t => t.onLease n (countLapse t.frame.barLimit)

/-! ### The frame start condition (R67) -/

/-- R67: why a bell fails the frame start condition, if it does. DESIGN CHOICE (log 39): a bell that fails in several
ways is HELD before SWINGING before WAITING CLAIM. -/
def State.frameFailure (s : State) (b : BellNo) : Option FailReason :=
  if s.bells[b].holder ≠ .clock then some .held
  else if s.swingOf b ≠ .down then some .swinging
  else if !s.bells[b].waiting.isEmpty then some .waitingClaim
  else none

/-- R67: the first failing bell of a set by ascending number, with its reason; none when the condition holds. -/
def State.frameTest (s : State) (set : List BellNo) : Option (BellNo × FailReason) :=
  set.findSome? fun b => (s.frameFailure b).map fun r => (b, r)

end Sys2Proof.Machine
end

