-- ==== Sys2Proof/Machine/Hammers.lean ====
section
/-! DEFINITION. The Hammer Engine (04): the strike list, fit test and arbiter, pulses and verification, the sequence
set, the blows of the hour run and of the toll. -/

namespace Sys2Proof.Machine

/-! ### Counters (R95) -/

def countWithheld (b : BellNo) (s : State) : State :=
  s.onBellCount b fun c => { c with withheld := bump16 c.withheld }

/-! ### The sequence set (R81) -/

/-- Set or clear one mark of a set. -/
def Marks.with (m : Marks) (q : Sequence) (v : Bool) : Marks :=
  match q with
  | .hour => { m with hour := v }
  | .toll => { m with toll := v }
  | .tune => { m with tune := v }

/-- R81: placing a mark sends nothing. -/
def placeMark (q : Sequence) (b : BellNo) (s : State) : State := s.onMarks b fun m => m.with q true

/-- R81: clearing a mark sends a sequence release when it leaves the set empty. -/
def clearMark (q : Sequence) (b : BellNo) (s : State) : Run :=
  let s' := s.onMarks b fun m => m.with q false
  if s.inSequence b && !s'.inSequence b then raise s' [.sequenceRelease b] else quiet s'

/-! ### The strike list (R75) -/

/-- R75: there is a place in the strike list. -/
def State.canPost (s : State) : Bool := s.strikes.length < Config.strikeMax

/-- R75: the list is ordered by due time, equal due times in the order posted. -/
def insertStrike (x : Strike) : List Strike → List Strike
  | [] => [x]
  | y :: rest => if y.due ≤ x.due then y :: insertStrike x rest else x :: y :: rest

/-- R75: an accepted post enters the list at once. -/
def enterStrike (b : BellNo) (due : Int) (src : StrikeSource) (s : State) : State :=
  { s with strikes := insertStrike ⟨s.nextStrike, b, due, src, false⟩ s.strikes, nextStrike := s.nextStrike + 1 }

/-- R75: an accepted post enters the list at once and is considered for firing. -/
def post (b : BellNo) (due : Int) (src : StrikeSource) (s : State) : Run := raise (enterStrike b due src s) [.strikes]

/-- A strike leaves the list. -/
def dropStrike (id : Nat) (s : State) : State := { s with strikes := s.strikes.filter fun x => x.id != id }

/-- R75: an owner removes its strikes, counted neither withheld nor commanded. -/
def removeStrikes (mine : StrikeSource → Bool) (s : State) : State :=
  { s with strikes := s.strikes.filter fun x => !mine x.source }

def StrikeSource.isHour : StrikeSource → Bool
  | .hour => true
  | _ => false

def StrikeSource.isToll (toll : Nat) : StrikeSource → Bool
  | .tollEntry i _ => i == toll
  | .tollStation i _ => i == toll
  | _ => false

def StrikeSource.isTune (play : Nat) : StrikeSource → Bool
  | .tune p => p == play
  | _ => false

/-! ### The blows of the hour run (R86) -/

/-- R86: post the run's blow, or repeat a refused post 100 ms later with its due time as intended. -/
def postHour (b : BellNo) (due : Int) (s : State) : Run :=
  if s.canPost then post b due .hour (s.onHour fun h => { h with posted := true, retry := none })
  else quiet (s.onHour fun h => { h with posted := false, retry := some ⟨due, s.timer + Config.retryMs⟩ })

/-- R86: the run ends; its mark is cleared now, or when the recovery of the last blow it fired has passed, by the
recovery in force now (log 53). -/
def endHour (s : State) : Run :=
  match s.hour.bell with
  | none => quiet { s with hour := idleHour }
  | some b =>
    match s.hour.lastFired with
    | none => clearMark .hour b { s with hour := idleHour }
    | some t =>
      let due := t + s.hammers[b].recovery
      if due ≤ s.timer then clearMark .hour b { s with hour := idleHour }
      else quiet (s.onHour fun h => { h with posted := false, retry := none, clearAt := some due })

/-- R86: a blow of the run has fired or been withheld at this moment and counts as done. -/
def hourBlow (fired : Bool) (s : State) : Run :=
  match s.hour.state, s.hour.clearAt, s.hour.bell with
  | .striking, none, some b =>
      let s := s.onHour fun h =>
        { h with done := h.done + 1, posted := false, lastFired := if fired then some s.timer else h.lastFired }
      if s.hour.done < s.hour.count then postHour b (s.now + s.plan.interval) s else endHour s
  | _, _, _ => quiet s

/-! ### The blows of the toll (R91) -/

/-- R75, R91: the source of the current toll's blows. -/
def TollRun.strike (r : TollRun) : StrikeSource :=
  match r.toll.source with
  | .entry k => .tollEntry r.id k
  | .station n _ => .tollStation r.id n

/-- R90 to R92: a station source receives COMPLETE. -/
def tollComplete (src : TollSource) (o : TollOutcome) (fired : Nat) (s : State) : State :=
  match src with
  | .station n tag => notifyOne n (.complete tag (.toll o fired)) s
  | .entry _ => s

/-- R91: post the toll's blow, or repeat a refused post 100 ms later. -/
def postToll (r : TollRun) (due : Int) (s : State) : Run :=
  if s.canPost then post r.toll.bell due r.strike (s.onToll fun r => { r with retry := none })
  else quiet (s.onToll fun r => { r with retry := some ⟨due, s.timer + Config.retryMs⟩ })

/-- R91: the TOLL mark is cleared and the generator is idle, so the head of the queue is tested (R90). -/
def freeToll (b : BellNo) (s : State) : Run :=
  (clearMark .toll b { s with toll := none }).andThen fun s => raise s [.tollHead]

/-- R91, R92: the current toll ends with an outcome; the recovery in force now times its mark's clearing (log 53). -/
def endToll (r : TollRun) (o : TollOutcome) (s : State) : Run :=
  let s := tollComplete r.toll.source o r.fired s
  match r.lastFired with
  | none => freeToll r.toll.bell s
  | some t =>
    let due := t + s.hammers[r.toll.bell].recovery
    if due ≤ s.timer then freeToll r.toll.bell s
    else quiet { s with toll := some { r with retry := none, clearAt := some due } }

/-- R91: a station toll's bell is still held by its station. -/
def tollHeld (t : Toll) (s : State) : Bool :=
  match t.source with
  | .entry _ => true
  | .station n _ => s.bells[t.bell].holder == .station n

/-- R91: after a blow counts as done the toll ends, or posts its next blow due at `due`. -/
def tollNext (r : TollRun) (due : Int) (s : State) : Run :=
  if r.toll.count ≤ r.done then endToll r .done s
  else if !tollHeld r.toll s then endToll r .ended s
  else postToll r due { s with toll := some r }

/-- R91: a blow of the toll has fired or been withheld at this moment and counts as done. -/
def tollBlow (fired : Bool) (s : State) : Run :=
  match s.toll with
  | none => quiet s
  | some r =>
    if r.clearAt.isSome then quiet s
    else
      let r := { r with
        done := r.done + 1, fired := if fired then r.fired + 1 else r.fired,
        lastFired := if fired then some s.timer else r.lastFired }
      tollNext r (s.now + (r.toll.interval : Int) * 1000) { s with toll := some r }

/-! ### What a strike's source is told (R77, R79) -/

/-- R116: the play's counts. -/
def onPlayCounts (play : Nat) (f : BlowCounts → BlowCounts) (s : State) : State :=
  s.onPlayer fun p =>
    { p with play := p.play.map fun q => if q.number = play then { q with counts := f q.counts } else q }

/-- R94: the outcome of a test strike. -/
def testComplete (n : Station) (tag : Byte) (o : TestOutcome) (s : State) : State :=
  notifyOne n (.complete tag (.test o)) s

/-- R79: the source learns that its strike has fired. -/
def toldFired (x : Strike) (sensor : Bool) (s : State) : Run :=
  match x.source with
  | .hour => hourBlow true s
  | .tune p => quiet (onPlayCounts p (fun c => { c with fired := c.fired + 1 }) s)
  | .tollEntry _ _ => tollBlow true s
  | .tollStation _ _ => tollBlow true s
  | .hand _ _ => quiet s
  | .test n tag => quiet (if sensor then s else testComplete n tag .noSensor s)

/-- R77: the source learns that its strike was withheld. -/
def toldWithheld (x : Strike) (s : State) : Run :=
  match x.source with
  | .hour => hourBlow false s
  | .tune p => quiet (onPlayCounts p (fun c => { c with withheld := c.withheld + 1 }) s)
  | .tollEntry _ _ => tollBlow false s
  | .tollStation _ _ => tollBlow false s
  | .hand _ _ => quiet s
  | .test n tag => quiet (testComplete n tag .withheld s)

/-- R77: a strike that fails the fit test leaves the list and is counted withheld. -/
def withhold (x : Strike) (s : State) : Run := toldWithheld x (countWithheld x.bell (dropStrike x.id s))

/-- R80, R94: the window that a strike opens. -/
def openWindow (x : Strike) (timer : Nat) : Window :=
  { start := timer, counted := true,
    test := match x.source with
      | .test n tag => some (n, tag)
      | _ => none }

/-- R79: the pulse begins: the hammer record at its start. -/
def startPulse (x : Strike) (timer : Nat) (h : Hammer) : Hammer :=
  { h with
    lastPulse := timer, pulse := some ⟨x, timer, h.width⟩,
    window := if h.sensor then some (openWindow x timer) else h.window }

/-- R79: commanded, and late when the start exceeds the due time by more than 50 ms. -/
def countFired (late : Bool) (c : BellCounters) : BellCounters :=
  { c with commanded := bump16 c.commanded, late := if late then bump16 c.late else c.late }

/-- R79: the arbiter has chosen the strike: it leaves the list and its coil is energised. The FIRE hits of the blow go
before what telling its source raises (log 57). -/
def fire (x : Strike) (s : State) : Run :=
  let s := dropStrike x.id s
  let s := s.onHammer x.bell (startPulse x s.timer)
  let s := s.onBellCount x.bell (countFired (decide (x.due + Config.lateMs < s.now)))
  toldFired x s.hammers[x.bell].sensor (fireWatch (.bell x.bell) .blow s)

/-! ### Fit test at the due time, and the arbiter (R76, R78) -/

/-- R78: the strike has passed the fit test at its due time. -/
def markFitted (id : Nat) (s : State) : State :=
  { s with strikes := s.strikes.map fun x => if x.id = id then { x with fitted := true } else x }

/-- R76, R77: fit-test the strikes whose due time has come, one after the other in list order;
one whose drive is in LIFT is withheld now (log 55). -/
def dueTests : Nat → State → Run
  | 0, s => quiet s
  | fuel + 1, s =>
    match s.strikes.find? fun x => !x.fitted && decide (x.due ≤ s.now) with
    | none => quiet s
    | some x => if s.fit x then dueTests fuel (markFitted x.id s) else (withhold x s).andThen (dueTests fuel)

/-- R78: the first strike goes before the second at the arbiter: earliest due time, lowest bell, first posted. -/
def Strike.before (x y : Strike) : Bool :=
  decide (x.due < y.due) || (x.due == y.due && (decide (x.bell < y.bell) || (x.bell == y.bell && decide (x.id < y.id))))

/-- R78: the arbiter's choice among the ready strikes. -/
def State.choose (s : State) : Option Strike :=
  (s.strikes.filter s.ready).foldl
    (fun best x =>
      match best with
      | none => some x
      | some y => if x.before y then some x else some y) none

/-- R78: the arbiter chooses whenever a coil is free and a strike is ready, and repeats the fit test on its choice. -/
def arbiter : Nat → State → Run
  | 0, s => quiet s
  | fuel + 1, s =>
    if s.coils < Config.coilMax then
      match s.choose with
      | none => quiet s
      | some x => ((if s.fit x then fire x s else withhold x s)).andThen (arbiter fuel)
    else quiet s

/-- R76, R78: what HE does with its strikes at any moment that may change them. -/
def runStrikes (s : State) : Run :=
  (dueTests s.strikes.length s).andThen fun s => arbiter s.strikes.length s

/-! ### Hammer status (R74, R80) -/

/-- R74: a fault report for a hammer that is OK; one for a hammer at FAULT leaves the cause it has. -/
def reportHammerFault (b : BellNo) (cause : HammerCause) (s : State) : State :=
  s.onHammer b fun h => if h.ok then { h with ok := false, cause := cause } else h

/-- R94: a test strike's source is told the outcome of its window. -/
def tellTest (w : Window) (o : TestOutcome) (s : State) : State :=
  match w.test with
  | some (n, tag) => testComplete n tag o s
  | none => s

/-- R80, R95: a report inside an open window confirms the blow. -/
def confirmBlow (b : BellNo) (w : Window) (s : State) : State :=
  let s := s.onHammer b fun h => { h with window := none, misses := 0 }
  let s := s.onBellCount b fun c =>
    if w.counted && decide (c.confirmed < c.commanded) then { c with confirmed := bump16 c.confirmed } else c
  tellTest w .confirmed s

/-- R74, R80: the third consecutive miss puts the hammer at FAULT with a FAULT notice. -/
def missFault (b : BellNo) (s : State) : State :=
  if s.hammers[b].ok && decide (Config.missMax ≤ s.hammers[b].misses) then
    notifyAll (.fault (.hammer b .misses s.counters.bells[b].missed))
      (s.onHammer b fun h => { h with ok := false, cause := .misses })
  else s

/-- R80: no report has come: the outcome is a miss; a FAULT goes before the COMPLETE of a test (log 57). -/
def takeMiss (b : BellNo) (w : Window) (s : State) : State :=
  let s := s.onHammer b fun h => { h with window := none, misses := min Config.missMax (h.misses + 1) }
  let s := s.onBellCount b fun c => if w.counted then { c with missed := bump16 c.missed } else c
  tellTest w .missed (missFault b s)

/-- R80: the bell's window has run its 150 ms without a report and no pulse is in flight on it. -/
def State.missDue (s : State) (b : BellNo) : Option Window :=
  match s.hammers[b].window with
  | some w => if w.start + Config.verifyMs ≤ s.timer && !s.busy b then some w else none
  | none => none

/-- R80: take the miss if it is due. -/
def missIfDue (b : BellNo) (s : State) : State :=
  match s.missDue b with
  | some w => takeMiss b w s
  | none => s

end Sys2Proof.Machine
end

