-- ==== Sys2Proof/Machine/Tunes.lean ====
section
/-! DEFINITION. The Tune Player (05): the request queue, the head test, a play from its start to its end, the outcomes
and the quarter plan. -/

namespace Sys2Proof.Machine

/-! ### The quarter plan and the outcomes (R119) -/

/-- R119: set a quarter plan entry. -/
def Player.setQuarter (p : Player) (q : Quarter) (e : QuarterEntry) : Player :=
  match q with
  | .q15 => { p with q15 := e }
  | .q30 => { p with q30 := e }
  | .q45 => { p with q45 := e }
  | .q00 => { p with q00 := e }

/-- R119: set a quarter plan entry at the present local time. -/
def markQuarter (q : Quarter) (m : QuarterMark) (s : State) : State :=
  s.onPlayer fun p => p.setQuarter q ⟨m, some s.tb.loc⟩

/-- R119: raise the count of an outcome. -/
def TuneCounts.bump (c : TuneCounts) : TuneOutcome → TuneCounts
  | .completed => { c with completed := bump16 c.completed }
  | .stopped => { c with stopped := bump16 c.stopped }
  | .abandoned => { c with abandoned := bump16 c.abandoned }
  | .silenced => { c with silenced := bump16 c.silenced }
  | .dropped => { c with dropped := bump16 c.dropped }

/-- R119: raise the player's count of an outcome. -/
def countOutcome (o : TuneOutcome) (s : State) : State := s.onPlayer fun p => { p with counts := p.counts.bump o }

/-- R119: HE receives the outcome of a request that carries the follow flag. -/
def tellFollow (follow : Bool) (id : Nat) (o : TuneOutcome) (s : State) : Run :=
  if follow then raise s [.followOutcome id o] else quiet s

/-- R119: a station source receives COMPLETE. -/
def tuneComplete (src : TuneSource) (o : TuneOutcome) (slot : SlotNo) (play : Option (Nat × BlowCounts)) (s : State) :
    State :=
  match src with
  | .station n tag => notifyOne n (.complete tag (.tune o slot play)) s
  | _ => s

/-- R119: a quarter source sets its quarter plan entry. -/
def tuneQuarter (src : TuneSource) (m : QuarterMark) (s : State) : State :=
  match src with
  | .quarter q => markQuarter q m s
  | _ => s

/-- R114: a request that never began is abandoned. -/
def abandon (r : TuneReq) (s : State) : Run :=
  tellFollow r.follow r.id .abandoned
    (tuneQuarter r.source (.ended .abandoned)
      (tuneComplete r.source .abandoned r.slot none (countOutcome .abandoned s)))

/-- R113 step 3: a head is silenced. -/
def silenceTune (r : TuneReq) (s : State) : Run :=
  tellFollow r.follow r.id .silenced (tuneQuarter r.source (.ended .silenced) (countOutcome .silenced s))

/-! ### The request queue (R109 to R112) -/

/-- R109: the queue holds eight requests. -/
def Player.full (p : Player) : Bool := Config.tuneQueueMax ≤ p.queue.length

/-- R109: append a request; one that becomes the head is tested (R113). -/
def enqueueTune (slot : SlotNo) (src : TuneSource) (repeats : Nat) (follow : Bool) (s : State) : Run :=
  let r : TuneReq := ⟨s.player.nextId, slot, src, repeats, s.timer, follow⟩
  let s' := s.onPlayer fun p => { p with queue := p.queue ++ [r], nextId := p.nextId + 1 }
  if s.player.queue.isEmpty then raise s' [.tuneHead] else quiet s'

/-- R101: the slot is READY. -/
def State.slotReady (s : State) (i : SlotNo) : Bool := s.slots[i].state == .ready

/-- R111: a request from the Schedule. -/
def scheduleTune (k : EntryNo) (slot : SlotNo) (repeats : Nat) (s : State) : Run :=
  if s.slotReady slot && !s.player.full then enqueueTune slot (.schedule k) repeats false s
  else quiet (countOutcome .dropped s)

/-- R112 step 1: a quarter request is dropped; `id` names it to the hour run. -/
def dropQuarter (q : Quarter) (follow : Bool) (id : Nat) (s : State) : Run :=
  tellFollow follow id .dropped (markQuarter q (.ended .dropped) (countOutcome .dropped s))

/-- R109: the request has a quarter source. -/
def TuneReq.isQuarter (r : TuneReq) : Bool :=
  match r.source with
  | .quarter _ => true
  | _ => false

/-- R112 step 2: what the replaced request leaves. -/
def replacedQuarter (r : TuneReq) (s : State) : Run :=
  tellFollow r.follow r.id .dropped (tuneQuarter r.source .replaced (countOutcome .dropped s))

/-- R112 step 2: the new request takes the old one's place. -/
def replaceQuarter (slot : SlotNo) (q : Quarter) (follow : Bool) (old : TuneReq) (s : State) : Run :=
  let r : TuneReq := ⟨s.player.nextId, slot, .quarter q, 1, s.timer, follow⟩
  let atHead := s.player.queue.head?.any TuneReq.isQuarter
  let run := (replacedQuarter old s).thenDo fun s =>
    markQuarter q .waiting (s.onPlayer fun p =>
      { p with queue := p.queue.map fun x => if x.isQuarter then r else x, nextId := p.nextId + 1 })
  run.andThen fun s => if atHead then raise s [.tuneHead] else quiet s

/-- R112: a quarter request from the Hammer Engine. Its identity is the player's next one. -/
def quarterTune (slot : SlotNo) (q : Quarter) (follow : Bool) (s : State) : Run :=
  let dropped := dropQuarter q follow s.player.nextId (s.onPlayer fun p => { p with nextId := p.nextId + 1 })
  if !s.slotReady slot then dropped
  else
    match s.player.queue.find? TuneReq.isQuarter with
    | some old => replaceQuarter slot q follow old s
    | none =>
      if s.player.full then dropped
      else enqueueTune slot (.quarter q) 1 follow (markQuarter q .waiting s)

/-- R104: every request waiting for a slot is removed and abandoned. -/
def abandonSlot (slot : SlotNo) (s : State) : Run :=
  let gone := s.player.queue.filter fun r => r.slot == slot
  let headGone := s.player.queue.head?.any fun r => r.slot == slot
  let s := s.onPlayer fun p => { p with queue := p.queue.filter fun r => r.slot != slot }
  (forEach gone abandon s).andThen fun s => if headGone then raise s [.tuneHead] else quiet s

/-! ### A play (R115, R116) -/

/-- R116: post one strike of a step; a post refused for room is counted withheld. The strike is considered for firing
at its own STRIKE_DUE (log 48), so that a TUNE STOP that meets the beginning of a step may come between (R121). -/
def postTuneBlow (play : Nat) (due : Int) (b : BellNo) (s : State) : Run :=
  if s.canPost then quiet (onPlayCounts play (fun c => { c with posted := c.posted + 1 }) (enterStrike b due (.tune play) s))
  else quiet (countWithheld b (onPlayCounts play (fun c => { c with withheld := c.withheld + 1 }) s))

/-- R115, R116: the place and the instant of the step after one that began at `t` and lasts `len` ms, in a slot of
`count` steps. DESIGN CHOICE (log 67): once the last step of the play has begun there is no next step, and the indices
stay those of that last step. -/
def Play.advance (p : Play) (count t len : Nat) : Play :=
  if p.stepIdx + 1 < count then { p with stepIdx := p.stepIdx + 1, nextAt := some (t + len) }
  else if p.repeatIdx + 1 < p.repeats then
    { p with stepIdx := 0, repeatIdx := p.repeatIdx + 1, nextAt := some (t + len + stepTime p.tempo 8) }
  else { p with nextAt := none }

/-- R116: the step whose instant is `t` begins. -/
def playStep (p : Play) (t : Nat) (s : State) : Run :=
  match s.slots[p.slot].written[p.stepIdx]? with
  | none => quiet s
  | some step =>
    let next := p.advance s.slots[p.slot].written.length t (stepTime p.tempo step.length)
    forEach step.bells (postTuneBlow p.number (s.now - ((s.timer : Int) - t)))
      (s.onPlayer fun x => { x with play := some next })

/-- R116: a step of the play begins when its instant has come. -/
def beginStep (s : State) : Run :=
  match s.player.play with
  | none => quiet s
  | some p =>
    match p.nextAt with
    | some t => if t ≤ s.timer then playStep p t s else quiet s
    | none => quiet s

/-- R115: the play record at the start of a request. -/
def playOf (r : TuneReq) (s : State) : Play :=
  { number := s.player.nextPlay, slot := r.slot, bellSet := s.slots[r.slot].bellSet, tempo := s.slots[r.slot].tempo,
    source := r.source, repeats := r.repeats, follow := r.follow, reqId := r.id, repeatIdx := 0, stepIdx := 0,
    nextAt := some s.timer, startTower := s.now, startTimer := s.timer, counts := ⟨0, 0, 0, 0⟩ }

/-- R113 step 4, R115: the head starts, its bell set is marked and its first step begins. -/
def startTune (r : TuneReq) (s : State) : Run :=
  let p := playOf r s
  let s := forAll p.bellSet (placeMark .tune) s
  let s := s.onPlayer fun x =>
    { x with queue := x.queue.tail, play := some p, nextPlay := (x.nextPlay + 1) % 65536, failing := none }
  beginStep (tuneQuarter r.source .playing s)

/-! ### The head test (R113, R114) -/

/-- R113 step 3: the attribute a source is tested for. -/
def TuneSource.quiet : TuneSource → Option Quiet
  | .quarter _ => some .quarters
  | .schedule _ => some .scheduled
  | .station _ _ => none

/-- R113: the head is silenced at the present moment. DESIGN CHOICE (log 70): a test at the very millisecond of a minute
boundary, before its MINUTE_EVENT, is answered by the new minute (R161), where R121 lets a start taken first play. -/
def State.tuneSilenced (s : State) (src : TuneSource) : Bool := src.quiet.any s.silenced

/-- R113: the head leaves the queue, and what its leaving raises; the next head is then tested. -/
def removeHead (r : TuneReq) (leave : TuneReq → State → Run) (s : State) : Run :=
  (leave r (s.onPlayer fun p => { p with queue := p.queue.tail, failing := none })).andThen fun s => raise s [.tuneHead]

/-- R114: the interval timer reading at which a request's wait limit runs out: by the limit of the last test (log 41). -/
def State.waitEnd (s : State) (r : TuneReq) : Nat := r.postTime + s.player.testedLimit * 1000

/-- R114: a new wait limit applies from the next test. -/
def takeLimit (s : State) : State := s.onPlayer fun p => { p with testedLimit := p.waitLimit }

/-- R113: the player tests the head of the queue; in the very millisecond of its limit the head may still start
(log 41). -/
def testHead (s : State) : Run :=
  match s.player.queue with
  | [] => quiet (s.onPlayer fun p => { p with failing := none })
  | r :: _ =>
    let s := takeLimit s
    if s.player.play.isSome then quiet s
    else if s.waitEnd r < s.timer then removeHead r abandon s
    else if s.tuneSilenced r.source then removeHead r silenceTune s
    else
      match s.frameTest s.slots[r.slot].bellSet with
      | some f => quiet (s.onPlayer fun p => { p with failing := some f })
      | none => startTune r s

/-- R114: the head's wait limit runs out while it is the head, whether it waits on a play or on the frame. One that
became the head during a play with its limit run out goes at the next such moment (log 41). -/
def headWaitLimit (s : State) : Run :=
  match s.player.queue with
  | [] => quiet s
  | r :: _ => if s.waitEnd r ≤ s.timer then removeHead r abandon s else quiet s

/-! ### The end of a play (R117, R118) -/

/-- R81: HE clears a bell's TUNE mark at the end of a play, and BF grants a waiting claim on a bell left out of sequence
(R58). -/
def releaseTune (b : BellNo) (s : State) : Run :=
  let s' := s.onMarks b fun m => m.with .tune false
  if s.inSequence b && !s'.inSequence b then sequenceReleased b s' else quiet s'

/-- R117 step 1, R118: the play's strikes leave the list, counted removed. -/
def removePlayStrikes (p : Play) (s : State) : State :=
  let n := (s.strikes.filter fun x => StrikeSource.isTune p.number x.source).length
  onPlayCounts p.number (fun c => { c with removed := c.removed + n }) (removeStrikes (StrikeSource.isTune p.number) s)

/-- The counts of the present play. -/
def State.playCounts (s : State) : BlowCounts :=
  match s.player.play with
  | some p => p.counts
  | none => ⟨0, 0, 0, 0⟩

/-- R117, R118: a play ends with an outcome; `tell` says that a station source receives its COMPLETE. A quarter source
sets its entry even where a newer request of that quarter has set it meanwhile (log 42). -/
def endPlay (p : Play) (o : TuneOutcome) (tell : Bool) (s : State) : Run :=
  let s := removePlayStrikes p s
  let counts := s.playCounts
  let r := (forEach p.bellSet releaseTune s).andThen fun s =>
    tellFollow p.follow p.reqId o (tuneQuarter p.source (.ended o) s)
  let r := r.thenDo fun s =>
    let s := if tell then tuneComplete p.source o p.slot (some (p.number, counts)) s else s
    (countOutcome o s).onPlayer fun x => { x with play := none }
  r.andThen fun s => raise s [.tuneHead]

/-- R117: the interval timer reading at which a play completes. -/
def State.playEnd (s : State) (p : Play) : Nat := p.startTimer + s.slots[p.slot].playTime p.repeats

/-- R117: the play completes when its play time has passed. -/
def completePlay (s : State) : Run :=
  match s.player.play with
  | some p => if s.playEnd p ≤ s.timer then endPlay p .completed true s else quiet s
  | none => quiet s

/-! ### Loading (R107) -/

/-- R107: the slot becomes EMPTY and gives back its reservation. -/
def emptySlotAt (i : SlotNo) (s : State) : State := s.onSlot i fun _ => emptySlot

/-- R107: the loading timer runs out. -/
def loadingExpired (i : SlotNo) (s : State) : State :=
  if s.slots[i].state = .loading ∧ s.slots[i].loadEnd ≤ s.timer then announce (.tuneSlot i) .part (emptySlotAt i s) else s

end Sys2Proof.Machine
end

