-- ==== Sys2Proof/Machine/Clock.lean ====
section
/-! DEFINITION. The Hammer Engine's clock side (04): boundary actions, the hour run, the toll queue, and what HE does at a
jump event. -/

namespace Sys2Proof.Machine

/-! ### The hour run (R83 to R87) -/

/-- R84: the run is dropped. -/
def dropHour (s : State) : State :=
  { s with hour := idleHour }.onCounters fun c => { c with hourDropped := bump16 c.hourDropped }

/-- R84: the count of a run for the boundary's local minute of day. -/
def hourCount (mode : CountMode) (boundary : Nat) : Nat :=
  match mode with
  | .single => 1
  | .twelve => if boundary / 60 % 12 = 0 then 12 else boundary / 60 % 12

/-- R84 step 5: the record goes to STRIKING, marks its bell and posts its first blow. -/
def strikeHour (s : State) : Run :=
  let b := s.plan.hourBell
  postHour b s.now
    (placeMark .hour b (s.onHour fun h =>
      { h with
        state := .striking, awaited := none, bell := some b, count := hourCount s.plan.mode h.boundary, done := 0,
        posted := false, retry := none, lastFired := none, clearAt := none }))

/-- R84: the hour run is to start, by the plan in force now (log 54). -/
def startHour (s : State) : Run :=
  if !s.plan.hourStrike then quiet { s with hour := idleHour }
  else if s.hour.deadline < s.timer then quiet (dropHour s)
  else if !s.bells[s.plan.hourBell].present then quiet (dropHour s)
  else if s.silenced .hours then quiet { s with hour := idleHour }
  else strikeHour s

/-- R85: the outcome of a quarter request that carries the follow flag. -/
def followOutcome (id : Nat) (o : TuneOutcome) (s : State) : Run :=
  if s.hour.state = .followWait ∧ s.hour.awaited = some id then
    (if o = .completed ∧ s.plan.gap ≠ 0 then
      quiet (s.onHour fun h => { h with state := .gap, awaited := none, gapEnd := s.timer + s.plan.gap * 1000 })
     else startHour s)
  else quiet s

/-- R87: a run in progress gives place to a new action at :00; its mark is cleared, and BF hears of the bell only if
the new action has not marked it again. -/
def replaceHour (s : State) : Run :=
  let bell := s.hour.bell
  let s := { removeStrikes StrikeSource.isHour s with hour := idleHour }
  match bell with
  | none => quiet s
  | some b => raise (s.onMarks b fun m => m.with .hour false) [.sequenceRelease b]

/-- The quarter of a boundary's minute of day. -/
def quarterOf (boundary : Nat) : Quarter :=
  match boundary % 60 / 15 with
  | 0 => .q00
  | 1 => .q15
  | 2 => .q30
  | _ => .q45

/-- R82: the slot of a quarter. -/
def StrikePlan.slotOf (p : StrikePlan) : Quarter → Option SlotNo
  | .q15 => p.slot15
  | .q30 => p.slot30
  | .q45 => p.slot45
  | .q00 => p.slot00

/-- R83: post a quarter's request, if its slot is set and quarters are not silenced. -/
def State.quarterSlot (s : State) (q : Quarter) : Option SlotNo :=
  if s.silenced .quarters then none else s.plan.slotOf q

/-- R83: the boundary action at :15, :30 or :45. -/
def quarterAction (q : Quarter) (s : State) : Run :=
  match s.quarterSlot q with
  | some i => quarterTune i q false s
  | none => quiet s

/-- R83: the boundary action at :00, with the record already free. -/
def hourAction (boundary deadline : Nat) (s : State) : Run :=
  let noted := s.onHour fun h => { h with boundary := boundary, deadline := deadline }
  match s.plan.hourStrike, s.quarterSlot .q00 with
  | true, some i =>
      quarterTune i .q00 true
        (noted.onHour fun h => { h with state := .followWait, awaited := some s.player.nextId })
  | true, none => startHour noted
  | false, some i => quarterTune i .q00 false noted
  | false, none => quiet noted

/-- R83: a boundary action for the boundary at a local minute of day, `late` ms after it. -/
def boundaryAction (boundary late : Nat) (s : State) : Run :=
  match quarterOf boundary with
  | .q00 =>
      let r := if s.hour.state = .idle then quiet s else replaceHour s
      r.andThen fun s => hourAction boundary (s.timer + s.plan.lateLimit * 60000 - late) s
  | q => quarterAction q s

/-- R83: what HE does at a minute event. -/
def hourMinute (s : State) : Run :=
  if s.tb.validity != .unset && s.tb.loc.minute % 15 == 0 then boundaryAction s.tb.loc.minute 0 s else quiet s

/-! ### Jumps (R88) -/

/-- A jump event (R12): old and new local time in whole seconds, the cause, old-time-valid, and the ms by which the
step moved the tower ms line (log 15). -/
structure Jump where
  old : DayTime
  new : DayTime
  cause : TimeCause
  oldValid : Bool
  delta : Int

/-- R157: the new local time is later than the old; R4: a jump within one second is neither forward nor backward. -/
def Jump.forward (j : Jump) : Bool := decide (j.old.index < j.new.index)

/-- R157: the new local time is earlier than the old. -/
def Jump.backward (j : Jump) : Bool := decide (j.new.index < j.old.index)

/-- R88: the most recent boundary that the jump passed, by its local minute, with the lateness in ms, a whole number of
seconds (log 15). -/
def Jump.passed (j : Jump) : Option (Nat × Nat) :=
  let late := j.new.secs % 900
  let passes := (j.forward && decide (j.old.index < j.new.index - late)) || (j.backward && late == 0)
  if passes then some (j.new.secs / 900 * 15, late * 1000) else none

/-- R88: a TIME SET moves due times, those of refused posts among them (log 32). -/
def shiftRetry (delta : Int) (r : Retry) : Retry := { r with due := r.due + delta }

/-- R88: a strike's due time moves. -/
def Strike.shift (delta : Int) (x : Strike) : Strike := { x with due := x.due + delta }

/-- R88: a TIME SET moves the due time of every strike by the amount of the step. -/
def shiftStrikes (delta : Int) (s : State) : State :=
  let s := { s with strikes := s.strikes.map (Strike.shift delta) }
  (s.onHour fun h => { h with retry := h.retry.map (shiftRetry delta) }).onToll
    fun r => { r with retry := r.retry.map (shiftRetry delta) }

/-- R88: what HE does at a jump with its most recent passed boundary. -/
def hourJump (j : Jump) (s : State) : Run :=
  match j.passed with
  | some (b, late) =>
      if j.oldValid && s.tb.validity != .unset && decide (late ≤ s.plan.lateLimit * 60000) then boundaryAction b late s
      else quiet s
  | none => quiet s

/-! ### The toll queue (R89, R90) -/

/-- R89: the toll queue holds four entries. -/
def State.tollFull (s : State) : Bool := Config.tollMax ≤ s.tollQueue.length

/-- R89: append a toll; one that becomes the head is tested. -/
def enqueueToll (b : BellNo) (count interval : Nat) (src : TollSource) (s : State) : Run :=
  let s' := { s with tollQueue := s.tollQueue ++ [⟨b, count, interval, src, s.timer⟩] }
  if s.tollQueue.isEmpty then raise s' [.tollHead] else quiet s'

/-- R89: a toll request from the Schedule. -/
def scheduleToll (k : EntryNo) (b : BellNo) (count interval : Nat) (s : State) : Run :=
  if s.tollFull then quiet (s.onCounters fun c => { c with tollsDropped := bump16 c.tollsDropped })
  else enqueueToll b count interval (.entry k) s

/-- R90: the head is removed, counted as abandoned. -/
def abandonToll (t : Toll) (s : State) : State :=
  tollComplete t.source .abandoned 0
    ({ s with tollQueue := s.tollQueue.tail }.onCounters fun c => { c with tollsAbandoned := bump16 c.tollsAbandoned })

/-- R90: the head's 120 s have passed. -/
def Toll.expired (t : Toll) (timer : Nat) : Bool := t.postTime + Config.tollWaitMs ≤ timer

/-- R90: heads that have waited their 120 s are removed, whether the generator is idle or not. -/
def expireTolls : Nat → State → State
  | 0, s => s
  | fuel + 1, s =>
    match s.tollQueue with
    | [] => s
    | t :: _ => if t.expired s.timer then expireTolls fuel (abandonToll t s) else s

/-- R90: the head is silenced. -/
def State.tollSilenced (s : State) (t : Toll) : Bool :=
  match t.source with
  | .entry _ => s.silenced .scheduled
  | .station _ _ => false

/-- R90: the holder with which the head starts. -/
def TollSource.startsWith : TollSource → Holder
  | .entry _ => .clock
  | .station n _ => .station n

/-- R90: a toll starts. -/
def startToll (t : Toll) (s : State) : Run :=
  let r : TollRun := ⟨s.nextToll, t, 0, 0, none, none, none⟩
  let s := { s with tollQueue := s.tollQueue.tail, toll := some r, nextToll := s.nextToll + 1 }
  (postToll r s.now (placeMark .toll t.bell s)).thenDo fun s => expireTolls s.tollQueue.length s

/-- R90: the head is removed and the next head is tested. -/
def nextToll (s : State) : Run := raise { s with tollQueue := s.tollQueue.tail } [.tollHead]

/-- R90: the tests of the head with the generator idle. -/
def testToll (t : Toll) (s : State) : Run :=
  if s.tollSilenced t then nextToll (s.onCounters fun c => { c with tollsSilenced := bump16 c.tollsSilenced })
  else if !s.bells[t.bell].present then raise (abandonToll t s) [.tollHead]
  else if s.bells[t.bell].holder = t.source.startsWith then startToll t s
  else
    match t.source with
    | .entry _ => quiet s
    | .station _ _ => nextToll (tollComplete t.source .ended 0 s)

/-- R90: HE tests the head of the toll queue. -/
def tollHeadTest (s : State) : Run :=
  let s := expireTolls s.tollQueue.length s
  match s.toll, s.tollQueue with
  | none, t :: _ => testToll t s
  | _, _ => quiet s

/-- R90: the head's wait limit runs out. -/
def tollWaitLimit (s : State) : Run :=
  match s.tollQueue with
  | [] => quiet s
  | t :: _ => if t.expired s.timer then raise (expireTolls s.tollQueue.length s) [.tollHead] else quiet s

/-! ### Timers of the hour run and of the toll (R85, R86, R91) -/

/-- R85: the hour-follow gap has passed. -/
def hourGapEnds (s : State) : Run :=
  if s.hour.state = .gap ∧ s.hour.gapEnd ≤ s.timer then startHour s else quiet s

/-- R86: a post refused FULL is repeated. -/
def hourRetries (s : State) : Run :=
  match s.hour.retry, s.hour.bell with
  | some r, some b => if r.tryAt ≤ s.timer then postHour b r.due s else quiet s
  | _, _ => quiet s

/-- R86: the late-limit deadline passes before the post is accepted. -/
def hourTooLate (s : State) : Run :=
  if s.hour.retry.isSome ∧ s.hour.deadline ≤ s.timer then endHour s else quiet s

/-- R86: the recovery of the last blow has passed, and the run's mark is cleared. -/
def hourMarkClears (s : State) : Run :=
  match s.hour.clearAt, s.hour.bell with
  | some t, some b => if t ≤ s.timer then clearMark .hour b { s with hour := idleHour } else quiet s
  | _, _ => quiet s

/-- R91: a whole interval has passed beyond the intended due time: the blow is counted withheld and counts as done. -/
def tollBlowLost (r : TollRun) (due : Int) (s : State) : Run :=
  let r := { r with done := r.done + 1, retry := none }
  tollNext r (due + (r.toll.interval : Int) * 1000) (countWithheld r.toll.bell { s with toll := some r })

/-- R91: before each blow after its first a station toll asks whether its station still holds the bell, a repeated
post being no exception. -/
def tollRepost (r : TollRun) (due : Int) (s : State) : Run :=
  if 1 ≤ r.done && !tollHeld r.toll s then endToll r .ended s else postToll r due s

/-- R91: a post refused FULL is repeated, or its blow is lost. -/
def tollRetries (s : State) : Run :=
  match s.toll with
  | none => quiet s
  | some r =>
    match r.retry with
    | none => quiet s
    | some x =>
      if s.timer < x.tryAt then quiet s
      else if x.due + (r.toll.interval : Int) * 1000 ≤ s.now then tollBlowLost r x.due s
      else tollRepost r x.due s

/-- R91: the recovery of the last blow has passed, and the toll's mark is cleared. -/
def tollMarkClears (s : State) : Run :=
  match s.toll with
  | none => quiet s
  | some r => if r.clearAt.any (· ≤ s.timer) then freeToll r.toll.bell s else quiet s

/-- R92: the current toll is stopped. -/
def stopToll (r : TollRun) (s : State) : Run := endToll r .stopped (removeStrikes (StrikeSource.isToll r.id) s)

end Sys2Proof.Machine
end

