-- ==== Sys2Proof/Machine/Gate.lean ====
section
/-! DEFINITION. The start gate's queue (R179, R180). What a grant does to its requester is in Settle.lean. -/

namespace Sys2Proof.Machine

/-- R179: the requester waits in the gate's queue. -/
def Gate.has (g : Gate) (w : Requester) : Bool := g.queue.any fun r => r.who == w

/-- R179: a request joins at the end; a requester already in the queue leaves it as it is. -/
def gateJoin (w : Requester) (s : State) : Run :=
  if s.gate.has w then quiet s
  else raise (s.onGate fun g => { g with queue := g.queue ++ [⟨w, s.timer⟩] }) [.gateTest]

/-- R179: a withdrawal removes the request, and the requesters behind it move up. -/
def gateLeave (w : Requester) (s : State) : Run :=
  if s.gate.has w then
    raise (s.onGate fun g => { g with queue := g.queue.filter fun r => r.who != w }) [.gateTest]
  else quiet s

/-- R180: at least the stagger interval has passed since the last grant. -/
def Gate.staggerPassed (g : Gate) (timer : Nat) : Bool :=
  match g.lastGrant with
  | none => true
  | some t => t + g.stagger * 1000 ≤ timer

/-- R180: the head that may be granted now, if any. -/
def State.grantable (s : State) : Option Requester :=
  match s.gate.queue with
  | [] => none
  | r :: _ => if !s.gate.limit && s.gate.staggerPassed s.timer then some r.who else none

/-- R180, R181: the head leaves the queue by a grant. -/
def takeGrant (s : State) : State :=
  s.onGate fun g => { g with queue := g.queue.tail, lastGrant := some s.timer, grants := bump16 g.grants }

/-- R178: a requester's place in the gate queue, from 1. -/
def Gate.place (g : Gate) (w : Requester) : Option Nat := (g.queue.findIdx? fun r => r.who == w).map (· + 1)

end Sys2Proof.Machine
end

