-- ==== Sys2Proof/Machine/Floods.lean ====
section
/-! DEFINITION. The Flood Controller (08): how a circuit follows its desired level, its feedback faults, its force,
and the evaluation of the flood plan. -/

namespace Sys2Proof.Machine

/-- R165: a circuit's state changes, and the change is reported. -/
def setCircuit (c : CircuitNo) (st : CircuitState) (s : State) : State :=
  let old := s.circuits[c].state
  let s := s.onCircuit c fun x => { x with state := st }
  if old = st then s else fireWatch (.circuit c) (.circuit old st s.circuits[c].cause) s

/-- R168: the contactor opens, and last-open is set to that moment. The loss of current is then expected (R182), so the
feedback input reads absent until it is reported again (log 14). -/
def openCircuit (c : CircuitNo) (s : State) : State :=
  readFeedback c false (s.onCircuit c fun x => { x with contactor := false, lastOpen := s.timer, fbDeadline := none })

/-- R165, R167: COOLING when the restrike delay has still to pass, OFF otherwise. -/
def Circuit.dark (x : Circuit) (timer : Nat) : CircuitState := if x.delayPassed timer then .off else .cooling

/-- R167: WAITING, with its gate request. -/
def enterWaiting (c : CircuitNo) (s : State) : Run := gateJoin (.circuit c) (setCircuit c .waiting s)

/-- R167: move a present circuit by its effective desired level. -/
def moveCircuit (c : CircuitNo) (s : State) : Run :=
  let x := s.circuits[c]
  if !x.present then quiet s
  else
    match x.state, x.desired with
    | .off, true => if x.delayPassed s.timer then enterWaiting c s else quiet (setCircuit c .cooling s)
    | .waiting, false => gateLeave (.circuit c) (setCircuit c .off s)
    | .closing, false | .on, false =>
        let s := openCircuit c s
        quiet (setCircuit c (s.circuits[c].dark s.timer) s)
    | _, _ => quiet s

/-- R167, R168: the restrike of a COOLING circuit has ended. -/
def endRestrike (c : CircuitNo) (s : State) : Run :=
  let x := s.circuits[c]
  if x.state = .cooling ∧ x.delayPassed s.timer then
    (if x.desired then enterWaiting c s else quiet (setCircuit c .off s))
  else quiet s

/-- R172: a present circuit leaves FAULT; R167 then applies. Its feedback tests run from this moment. -/
def leaveFault (c : CircuitNo) (s : State) : Run :=
  if s.circuits[c].state = .fault then
    let s := s.onCircuit c fun x => { x with cause := .none, fbFrom := s.timer }
    moveCircuit c (setCircuit c (s.circuits[c].dark s.timer) s)
  else quiet s

/-- R169: current is present within the wait, and the circuit is ON. The 500 ms of R170 count from here. -/
def circuitLit (c : CircuitNo) (s : State) : State :=
  if s.circuits[c].state = .closing then
    setCircuit c .on (s.onCircuit c fun x => { x with fbDeadline := none, fbFrom := s.timer })
  else s

/-- R169: the contactor closes on a grant to a WAITING circuit. The circuit goes on to ON at once where it has no
feedback, and where its input reads present already, so that the input of a CLOSING circuit reads absent. -/
def closeCircuit (c : CircuitNo) (s : State) : State :=
  let s := s.onCircuit c fun x =>
    { x with
      contactor := true, fbDeadline := if x.fbPresent then some (s.timer + Config.feedbackWaitMs) else none }
  let s := setCircuit c .closing s
  if s.circuits[c].fbPresent && !s.pins.feedback[c] then s else circuitLit c s

/-- R169: the start gate grants a circuit's request. -/
def gateGrantsCircuit (c : CircuitNo) (s : State) : Run :=
  quiet (if s.circuits[c].state = .waiting then closeCircuit c s else s)

/-- R170, R171: a circuit goes to FAULT with a cause, and FAULT notices go to all stations, after the FIRE hits of the
change of state (log 57). -/
def circuitFaults (c : CircuitNo) (cause : CircuitCause) (s : State) : State :=
  let s := setCircuit c .fault (s.onCircuit c fun x => { x with cause := cause })
  notifyAll (.fault (.circuit c cause (if cause = .stuck then none else s.circuits[c].force))) s

/-- R170: the contactor opens and the circuit goes to FAULT. -/
def feedbackFails (c : CircuitNo) (cause : CircuitCause) (s : State) : State := circuitFaults c cause (openCircuit c s)

/-- R171: the states in which a present input is STUCK. -/
def CircuitState.dark : CircuitState → Bool
  | .off | .cooling | .waiting => true
  | _ => false

/-- R171: a circuit's input has read present for 2 s with its contactor open. -/
def circuitStuck (c : CircuitNo) (s : State) : Run :=
  gateLeave (.circuit c) (circuitFaults c .stuck s)

/-- R176: a force ends; the change comes from the part, its CHANGED before the CHANGE hits (log 57). -/
def endForce (c : CircuitNo) (s : State) : State :=
  let s := s.onCircuit c fun x => { x with force := none }
  changeWatch (.circuit c) .forceEnded .part (announce (.circuitForce c) .part s)

/-- R176: the circuit's force is UNTIL CHANGE. -/
def Circuit.untilChange (x : Circuit) : Bool := x.force.any fun f => f.expiry == .untilChange

/-- R175, R176, R172, R167: a circuit whose plan-desired changes to `level`. -/
def planChanges (c : CircuitNo) (level : Bool) (s : State) : Run :=
  let s := s.onCircuit c fun x => { x with planOn := level }
  let s := if s.circuits[c].untilChange then endForce c s else s
  let r := if level then quiet s else leaveFault c s
  r.andThen (moveCircuit c)

/-- R175: evaluate the plan-desired of one circuit. -/
def evaluateCircuit (c : CircuitNo) (s : State) : Run :=
  let level := s.planLevel c
  if s.circuits[c].planOn = level then quiet s else planChanges c level s

/-- R175: evaluate the plan-desired of every circuit. -/
def evaluatePlan (s : State) : Run := forEach allCircuits evaluateCircuit s

/-- R176: the instant of a minutes force's expiry. -/
def Circuit.expiryAt (x : Circuit) : Option Int :=
  match x.force with
  | some ⟨_, _, .tower t⟩ => some t
  | _ => none

/-- R176: a minutes force's expiry has come. -/
def forceExpires (c : CircuitNo) (s : State) : Run :=
  if s.circuits[c].expiryAt.any fun t => decide (t ≤ s.now) then moveCircuit c (endForce c s) else quiet s

end Sys2Proof.Machine
end

