-- ==== Sys2Proof/Machine/Swings.lean ====
section
/-! DEFINITION. The Swing Controller (06): contactors and pulses, the nine states, stops, faults, starts and jogs. -/

namespace Sys2Proof.Machine

/-! ### Contactors and pulses (R131, R132) -/

/-- The other direction. -/
def opposite : Direction → Direction
  | .forward => .reverse
  | .reverse => .forward

/-- The contactor of a direction. -/
def Drive.contactor (d : Drive) : Direction → Contactor
  | .forward => d.fwd
  | .reverse => d.rev

def Drive.setContactor (d : Drive) (dir : Direction) (c : Contactor) : Drive :=
  match dir with
  | .forward => { d with fwd := c }
  | .reverse => { d with rev := c }

/-- A contactor opens: one that is open keeps its reading. -/
def Contactor.opened (c : Contactor) (timer : Nat) : Contactor := if c.closed then ⟨false, timer⟩ else c

/-- Open the contactor of one direction. -/
def Drive.openSide (timer : Nat) (dir : Direction) (d : Drive) : Drive :=
  d.setContactor dir ((d.contactor dir).opened timer)

/-- Open both contactors; the pulse that closed one, or waited to, is cut. -/
def Drive.openAll (timer : Nat) (d : Drive) : Drive :=
  { d with fwd := d.fwd.opened timer, rev := d.rev.opened timer, pulse := none }

/-- R132: the dead time has passed since the other contactor last opened, and the other contactor is open. -/
def Drive.mayClose (d : Drive) (timer : Nat) (dir : Direction) : Bool :=
  let other := d.contactor (opposite dir)
  !other.closed && decide (other.lastOpened + d.deadTime ≤ timer)

/-- Close the contactor of a direction. -/
def Drive.closeSide (dir : Direction) (d : Drive) : Drive :=
  d.setContactor dir { d.contactor dir with closed := true }

/-- R131: a pulse closes its contactor. -/
def Drive.closePulse (dir : Direction) (plannedEnd : Option Nat) (d : Drive) : Drive :=
  { d.closeSide dir with lastDir := some dir, pulse := some ⟨dir, plannedEnd, true⟩ }

/-- R132: a pulse with a planned end would last less than 50 ms when it closed at `start`. -/
def pulseTooShort (start : Nat) (plannedEnd : Option Nat) : Bool :=
  plannedEnd.any fun e => e < start + Config.pulseMinMs

/-- R131, R132: a pulse begins in a direction; it closes now, waits for the dead time, or is skipped. A pulse of the other
direction that is still closed ends first (log 18). -/
def Drive.beginPulse (timer : Nat) (dir : Direction) (plannedEnd : Option Nat) (d : Drive) : Drive :=
  let d := { d.openSide timer (opposite dir) with pulse := none }
  if d.mayClose timer dir then d.closePulse dir plannedEnd
  else if pulseTooShort ((d.contactor (opposite dir)).lastOpened + d.deadTime) plannedEnd then d.openSide timer dir
  else { d.openSide timer dir with pulse := some ⟨dir, plannedEnd, false⟩ }

/-- R131: the pulse ends: its contactor opens, or never closes. -/
def Drive.endPulse (timer : Nat) (d : Drive) : Drive :=
  match d.pulse with
  | none => d
  | some p => { d.openSide timer p.dir with pulse := none }

/-- R132: the dead time has passed for a delayed pulse, which closes or is skipped. -/
def Drive.closeDelayed (timer : Nat) (d : Drive) : Drive :=
  match d.pulse with
  | some ⟨dir, plannedEnd, false⟩ =>
      if d.mayClose timer dir then
        (if pulseTooShort timer plannedEnd then { d with pulse := none } else d.closePulse dir plannedEnd)
      else d
  | _ => d

/-- R131: the pulse reaches its planned end. -/
def Drive.pulseDue (timer : Nat) (d : Drive) : Bool :=
  match d.pulse with
  | some ⟨_, some e, _⟩ => e ≤ timer
  | _ => false

/-! ### Jogs (R142) -/

/-- R142: the jog in flight ends and its contactor opens. -/
def Drive.endJog (timer : Nat) (d : Drive) : Drive :=
  match d.jog with
  | none => d
  | some j => { d.openSide timer j.dir with jog := none }

/-- R132, R142: the jog's contactor may close: its start has come, and the closing keeps the law of R132. -/
def Drive.jogReady (d : Drive) (timer : Nat) (j : Jog) : Bool :=
  !j.closed && decide (j.start ≤ timer) && d.mayClose timer j.dir

/-- R142: the jog's contactor closes at its start. -/
def Drive.closeJog (timer : Nat) (d : Drive) : Drive :=
  match d.jog with
  | some j => if d.jogReady timer j then { d.closeSide j.dir with jog := some { j with closed := true } } else d
  | none => d

/-- R142: a new jog: its start waits for the dead time since the opposite contactor opened. -/
def Drive.newJog (timer : Nat) (dir : Direction) (duration : Nat) (n : Station) (d : Drive) : Drive :=
  let start := max timer ((d.contactor (opposite dir)).lastOpened + d.deadTime)
  { d with jog := some ⟨dir, start, start + duration, n, false⟩ }.closeJog timer

/-- R142: a jog in the same direction moves the end of the one in flight. -/
def Drive.extendJog (timer duration : Nat) (d : Drive) : Drive :=
  { d with jog := d.jog.map fun j => { j with stop := timer + duration } }

/-! ### States (R123, R125) -/

/-- The states in which a swing runs and may be extended or stopped by its time (R127, R128). -/
def SwingState.underway : SwingState → Bool
  | .lift | .queued | .kick | .rise | .ringing => true
  | _ => false

/-- The states in which a swing is coming to its end (R127, R128). -/
def SwingState.returning : SwingState → Bool
  | .stopping | .settle | .drop => true
  | _ => false

/-- The states in which the sensor-loss wait runs (R137). -/
def SwingState.moving : SwingState → Bool
  | .kick | .rise | .ringing | .stopping => true
  | _ => false

/-- R123: a bell's swing state has changed: BF reports it. -/
def reportSwing (d : DriveNo) (s : State) : Run :=
  match s.drives[d].bell with
  | some b => raise s [.bellChanged b false]
  | none => quiet s

/-- R123: the drive's state changes; `f` is what the entry to the state does to the record. -/
def enter (d : DriveNo) (st : SwingState) (f : Drive → Drive) (s : State) : Run :=
  reportSwing d (s.onDrive d fun x => { f x with state := st })

/-- R129: LIFT: the actuator begins to retract and the lift wait starts. -/
def enterLift (d : DriveNo) (s : State) : Run :=
  enter d .lift (fun x => { x with deadline := some (s.timer + Config.liftWaitMs) }) s

/-- R129, R130: QUEUED: the gate request is made. -/
def enterQueued (d : DriveNo) (s : State) : Run :=
  (enter d .queued (fun x => { x with deadline := none }) s).andThen (gateJoin (.drive d))

/-- R133: KICK. -/
def Drive.kick (timer : Nat) (x : Drive) : Drive :=
  { x with
    highestKick := none, deadline := some (timer + x.kickTime * 1000), kickRun := 1, kickLen := x.kickTime * 1000,
    sensorDeadline := some (timer + Config.sensorLossMs) }.beginPulse timer .forward none

/-- R130, R133: the gate grants the drive's request. -/
def gateGrantsDrive (d : DriveNo) (s : State) : Run :=
  if s.drives[d].state = .queued then
    enter d .kick (Drive.kick s.timer) (s.onDriveCount d fun c => { c with starts := bump16 c.starts })
  else quiet s

/-- R138, R140: STOPPING: both contactors open. -/
def enterStopping (d : DriveNo) (s : State) : Run :=
  enter d .stopping (fun x => { x.openAll s.timer with deadline := none }) s

/-- R137, R140: SETTLE with a settle timer of `secs` seconds. -/
def enterSettle (d : DriveNo) (secs : Nat) (s : State) : Run :=
  enter d .settle
    (fun x => { x.openAll s.timer with deadline := some (s.timer + secs * 1000), sensorDeadline := none }) s

/-- R140: DROP: the actuator is released and the drop wait starts. -/
def enterDrop (d : DriveNo) (s : State) : Run :=
  enter d .drop
    (fun x => { x.openAll s.timer with deadline := some (s.timer + Config.liftWaitMs), sensorDeadline := none }) s

/-! ### The outcome (R141) -/

/-- R141: the fields that return to their start values once the outcome has been reported. -/
def Drive.clearSwing (x : Drive) : Drive :=
  { x with
    cause := .none, source := .none, stopTime := none, pPrev := Config.pulseStartMs, inBand := 0, highestKick := none }

/-- R141: the outcome is reported to a station source, and the record is cleared. -/
def reportOutcome (d : DriveNo) (engaged notRung : Bool) (s : State) : State :=
  let x := s.drives[d]
  let s := match x.source, x.bell with
    | .station n tag, some b => notifyOne n (.complete tag (.swing b x.cause engaged notRung)) s
    | _, _ => s
  s.onDrive d Drive.clearSwing

/-- R140, R141: the drive goes to DOWN; BF passes the bell on; the outcome is reported, its COMPLETE last (log 57). -/
def reachDown (d : DriveNo) (engaged : Bool) (s : State) : Run :=
  let r := enter d .down (fun x => { x with deadline := none }) s
  let r := match s.drives[d].bell with
    | some b => r.andThen (downReported b)
    | none => r
  r.thenDo (reportOutcome d engaged false)

/-- The hammer position sensor of a drive reads ENGAGED. -/
def State.hammerDown (s : State) (d : DriveNo) : Bool := s.pins.hammerPos[d] == .engaged

/-! ### Faults (R129, R134, R136, R137, R140) -/

/-- A FAULT notice of a drive to all stations; it goes before what the fault's other effects raise (log 57). -/
def driveFault (d : DriveNo) (cause : DriveFault) (s : State) : State :=
  notifyAll (.fault (.drive d s.drives[d].bell cause)) s

/-- A fault report on the hammer of the drive's bell (R74). -/
def hammerFaultOf (d : DriveNo) (cause : HammerCause) (s : State) : State :=
  match s.drives[d].bell with
  | some b => reportHammerFault b cause s
  | none => s

/-- R129: the lift has failed. -/
def liftFails (d : DriveNo) (s : State) : Run :=
  let s := s.onDrive d fun x => { x with cause := .liftFault }
  let s := driveFault d .liftFault (hammerFaultOf d .lift s)
  reachDown d (s.hammerDown d) s

/-- R134: the start has failed. -/
def startFails (d : DriveNo) (s : State) : Run :=
  let s := s.onDrive d fun x => { x with cause := .startFail }.openAll s.timer
  let s := s.onDriveCount d fun c => { c with startFails := bump16 c.startFails }
  enterDrop d (driveFault d .startFail s)

/-- R136: a peak of 170° or more in KICK, RISE or RINGING. -/
def tripDrive (d : DriveNo) (angle : Nat) (s : State) : Run :=
  let s := s.onDrive d (Drive.openAll s.timer)
  let s := s.onDriveCount d fun c => { c with trips := bump16 c.trips }
  let s := s.onDrive d fun x => { x with cause := .trip }
  enterStopping d (driveFault d (.trip angle) s)

/-- R136: a peak of 170° or more in STOPPING. -/
def tripStopping (d : DriveNo) (angle : Nat) (s : State) : Run :=
  let s := s.onDriveCount d fun c => { c with trips := bump16 c.trips }
  quiet ((driveFault d (.trip angle) s).onDrive d (Drive.openAll s.timer))

/-- Set the ending cause, unless a cause is already set (R137, R138). -/
def Drive.setCause (c : SwingCause) (x : Drive) : Drive := if x.cause = .none then { x with cause := c } else x

/-- R137: the sensor is lost. -/
def sensorLost (d : DriveNo) (s : State) : Run :=
  let s := s.onDrive d fun x => (x.openAll s.timer).setCause .sensorLost
  enterSettle d (2 * s.drives[d].settle) (driveFault d .sensorLost s)

/-- R140: the drop wait has run out. -/
def dropFails (d : DriveNo) (s : State) : Run :=
  reachDown d false (driveFault d .dropFault (hammerFaultOf d .drop s))

/-! ### Grant and stop (R129, R138) -/

/-- R129: the drive's SWING claim is granted. -/
def swingGranted (d : DriveNo) (s : State) : Run :=
  let s := s.onDrive d fun x => { x.endJog s.timer with claimWaiting := none }
  match s.drives[d].bell with
  | none => quiet s
  | some b => if s.busy b then quiet (s.onDrive d fun x => { x with grantWaiting := true }) else enterLift d s

/-- R129, R138: the hammer pulse on the drive's bell has ended with a grant waiting. -/
def grantAfterPulse (d : DriveNo) (s : State) : Run :=
  if s.drives[d].grantWaiting then
    let s := s.onDrive d fun x => { x with grantWaiting := false }
    if s.drives[d].cause = .none then enterLift d s else enterDrop d s
  else quiet s

/-- R138: the claim of a DOWN drive is withdrawn and the outcome reported, not rung. -/
def withdrawClaim (d : DriveNo) (s : State) : Run :=
  let s := s.onDrive d fun x => { x with claimWaiting := none }
  let r := match s.drives[d].bell with
    | some b => removeClaim b .swing s
    | none => quiet s
  r.thenDo fun s => reportOutcome d (s.hammerDown d) true s

/-- R138: a stop reaches a drive. -/
def stopDrive (d : DriveNo) (c : SwingCause) (s : State) : Run :=
  let x := s.drives[d]
  let caused := s.onDrive d (Drive.setCause c)
  match x.state with
  | .down =>
      if x.claimWaiting.isSome then withdrawClaim d caused
      else if x.grantWaiting then quiet caused
      else quiet s
  | .lift => enterDrop d caused
  | .queued => (gateLeave (.drive d) caused).andThen (enterDrop d)
  | .kick | .rise | .ringing => enterStopping d caused
  | .stopping | .settle | .drop => quiet s

/-- R128: the tower ms line has reached the drive's stop time in a state that it stops. -/
def State.stopDue (s : State) (d : DriveNo) : Bool :=
  let x := s.drives[d]
  (x.state.underway || x.claimWaiting.isSome || x.grantWaiting) && x.stopTime.any fun t => decide (t ≤ s.now)

/-! ### Starts (R127, R128) -/

/-- R128: the stop time that a start asks for. -/
def State.askedStop (s : State) (duration : Option Nat) : Option Int :=
  duration.map fun m => roundUpMinute (s.now + (m : Int) * 60000)

/-- R128: the later of two stop times, none being later than any. -/
def laterStop (a b : Option Int) : Option Int :=
  match a, b with
  | some x, some y => some (max x y)
  | _, _ => none

/-- R128: an extension. -/
def extendSwing (d : DriveNo) (asked : Option Int) (s : State) : State :=
  s.onDrive d fun x => { x with stopTime := laterStop x.stopTime asked }

/-- R126, R127: SC makes a SWING claim for a drive, and takes its source and stop time when it is granted or waits. -/
def claimSwing (d : DriveNo) (b : BellNo) (origin : Origin) (behalf : Option Station) (tag : Option Byte)
    (src : SwingSource) (asked : Option Int) (s : State) : Claimed :=
  let c := claimBell b ⟨.swing, origin, behalf, tag, s.timer⟩ s
  match c.outcome with
  | .granted => { c with run := c.run.thenDo fun s => s.onDrive d fun x => { x with source := src, stopTime := asked } }
  | .pending _ =>
      { c with run := c.run.thenDo fun s =>
          s.onDrive d fun x => { x with source := src, stopTime := asked, claimWaiting := some origin } }
  | _ => c

/-- R123: skipped starts. -/
def countSkippedStart (d : DriveNo) (s : State) : State := s.onDrive d fun x => { x with skipped := bump16 x.skipped }

/-- R54, R127: a schedule entry's SWING action on one bell. -/
def scheduleSwingBell (k : EntryNo) (asked : Option Int) (b : BellNo) (s : State) : Run :=
  match s.driveOf b with
  | none => quiet s
  | some d =>
    let x := s.drives[d]
    if !s.bells[b].present then quiet s
    else if x.state.underway || x.claimWaiting.isSome then quiet (extendSwing d asked s)
    else if x.state.returning then quiet (countSkippedStart d s)
    else
      let c := claimSwing d b (.entry k) none none (.schedule k) asked s
      -- R54: a drive whose grant waits on a hammer pulse finds the bell already held, and is extended
      if c.outcome = .alreadyHeld then c.run.thenDo (extendSwing d asked) else c.run

/-- R127: a schedule entry's SWING action. -/
def scheduleSwing (k : EntryNo) (bells : List BellNo) (duration : Nat) (s : State) : Run :=
  let set := allBells.filter bells.contains
  if s.silenced .scheduled then
    quiet (forAll set (fun b s => match s.driveOf b with
      | some d => countSkippedStart d s
      | none => s) s)
  else forEach set (scheduleSwingBell k (s.askedStop (some duration))) s

/-! ### The sensors (R131, R133, R135, R136, R140) -/

/-- R135: the width of a law pulse. -/
def Drive.lawWidth (x : Drive) : Nat :=
  let p : Int := (x.pPrev : Int) + Config.pulseGain * ((x.target : Int) - (x.lastPeak.getD 0 : Nat))
  (max 0 (min (Config.pulseMaxMs : Int) p)).toNat

/-- R135: the law pulse at a crossing; a width of 0 gives no pulse. -/
def Drive.lawPulse (timer : Nat) (dir : Direction) (x : Drive) : Drive :=
  let p := x.lawWidth
  let x := { x with pPrev := p }
  if p = 0 then x else x.beginPulse timer dir (some (timer + p))

/-- R133, R135, R140: what a bottom crossing does to a drive's record. -/
def Drive.crossing (timer : Nat) (dir : Direction) (x : Drive) : Drive :=
  let x := if x.state.moving then { x with sensorDeadline := some (timer + Config.sensorLossMs) } else x
  match x.state with
  | .kick => x.beginPulse timer dir none
  | .rise | .ringing => x.lawPulse timer dir
  | .stopping => if x.brake then x.beginPulse timer (opposite dir) (some (timer + Config.brakeMs)) else x
  | _ => x

/-- R135: the peak lies within 5° of the target. -/
def Drive.inBandPeak (x : Drive) (angle : Nat) : Bool :=
  decide (angle ≤ x.target + Config.bandAngle) && decide (x.target ≤ angle + Config.bandAngle)

/-- R133: a peak taken in KICK. -/
def peakInKick (d : DriveNo) (angle : Nat) (s : State) : Run :=
  let s := s.onDrive d fun x => { x with highestKick := some (max angle (x.highestKick.getD 0)) }
  if Config.riseAngle ≤ angle then
    enter d .rise (fun x => { x with pPrev := Config.pulseStartMs, inBand := 0, deadline := none }) s
  else quiet s

/-- R135: a peak taken in RISE. -/
def peakInRise (d : DriveNo) (angle : Nat) (s : State) : Run :=
  let s := s.onDrive d fun x => { x with inBand := if x.inBandPeak angle then x.inBand + 1 else 0 }
  if Config.bandPeaks ≤ s.drives[d].inBand then enter d .ringing id s else quiet s

/-- R131, R133, R135, R136, R140: a peak is reported. -/
def takePeak (d : DriveNo) (angle : Nat) (s : State) : Run :=
  let s := s.onDrive d fun x => { x.endPulse s.timer with lastPeak := some angle }
  let tooHigh := Config.maxAngle ≤ angle
  match s.drives[d].state with
  | .kick => if tooHigh then tripDrive d angle s else peakInKick d angle s
  | .rise => if tooHigh then tripDrive d angle s else peakInRise d angle s
  | .ringing => if tooHigh then tripDrive d angle s else quiet s
  | .stopping =>
      if tooHigh then tripStopping d angle s
      else if angle < s.drives[d].rest then enterSettle d s.drives[d].settle s
      else quiet s
  | _ => quiet s

/-- R134: the kick timer runs out. -/
def kickExpires (d : DriveNo) (s : State) : Run :=
  let x := s.drives[d]
  if x.kickRun = 1 ∧ x.highestKick.any (Config.kickAngle ≤ ·) then
    quiet (s.onDrive d fun x => { x with kickRun := 2, deadline := some (s.timer + x.kickLen) })
  else startFails d s

end Sys2Proof.Machine
end

