-- ==== Sys2Proof/Machine/Settle.lean ====
section
/-! DEFINITION. What each report between blocks does where it arrives, and how a step runs all the reports it raises. -/

namespace Sys2Proof.Machine

/-- R180: what a grant does to its requester (R130, R169). -/
def gateGrants (w : Requester) (s : State) : Run :=
  match w with
  | .drive d => gateGrantsDrive d s
  | .circuit c => gateGrantsCircuit c s

/-- R180: the gate tests its head; the next head is tested when it has left. -/
def gateTest (s : State) : Run :=
  match s.grantable with
  | none => quiet s
  | some w => (gateGrants w (takeGrant s)).andThen fun s => raise s [.gateTest]

/-- R142: a jog ends when its bell has passed from its station to another holder. -/
def endLostJog (b : BellNo) (s : State) : State :=
  match s.driveOf b with
  | none => s
  | some d =>
    match s.drives[d].jog with
    | some j => if s.bells[b].holder = .station j.station then s else s.onDrive d (Drive.endJog s.timer)
    | none => s

/-- R90: the bell is that of the head of the toll queue. -/
def State.tollHeadOn (s : State) (b : BellNo) : Bool := s.tollQueue.head?.any fun t => t.bell == b

/-- R113: the bell is in the bell set of the head of the tune request queue. -/
def State.tuneHeadOn (s : State) (b : BellNo) : Bool :=
  s.player.queue.head?.any fun r => s.slots[r.slot].bellSet.contains b

/-- R90, R142: what HE and SC do at a change of holder. -/
def holderChanged (b : BellNo) (s : State) : Run :=
  let s := endLostJog b s
  if s.toll.isNone && s.tollHeadOn b then tollHeadTest s else quiet s

/-- R48, R113, R123: a change on a bell reaches HE, SC and TP. -/
def bellChanged (b : BellNo) (holder : Bool) (s : State) : Run :=
  (if holder then holderChanged b s else quiet s).andThen fun s => if s.tuneHeadOn b then testHead s else quiet s

/-- R129: BF's grant of a SWING claim reaches SC. -/
def swingGrant (b : BellNo) (s : State) : Run :=
  match s.driveOf b with
  | some d => swingGranted d s
  | none => quiet s

/-- What a report does where it arrives. -/
def runTask (t : Task) (s : State) : Run :=
  match t with
  | .strikes => runStrikes s
  | .tuneHead => testHead s
  | .tollHead => tollHeadTest s
  | .bellChanged b h => bellChanged b h s
  | .sequenceRelease b => sequenceReleased b s
  | .swingGrant b => swingGrant b s
  | .lapseStop d => stopDrive d .lapse s
  | .followOutcome id o => followOutcome id o s
  | .gateTest => gateTest s

/-- Run the reports in the order they were raised, each with what it raises in turn. -/
def settleFor : Nat → List Task → State → State
  | 0, _, s => s
  | _ + 1, [], s => s
  | fuel + 1, t :: ts, s => settleFor fuel (ts ++ (runTask t s).todo) (runTask t s).st

/-- A bound on the reports of one step (log 24). -/
def settleFuel : Nat := 4000

/-- All the reports of a step are run inside it (95_what_each_step_holds). -/
def settle (r : Run) : State := settleFor settleFuel r.todo r.st

end Sys2Proof.Machine
end

