-- ==== Sys2Proof/Machine/Schedule.lean ====
section
/-! DEFINITION. The Schedule (07): firing, expiry, and what a jump catches up or passes. -/

namespace Sys2Proof.Machine

/-- R155: an entry is disabled by the part; the CHANGED goes before the CHANGE hits (log 57). -/
def disableEntry (k : EntryNo) (s : State) : State :=
  let s := s.setEntry k (s.entries[k].map fun e => { e with enabled := false })
  changeWatch (.entry k) .disabled .part (announce (.entry k) .part s)

/-- R156: an entry's action is handed on. -/
def handOn (k : EntryNo) (a : Action) (s : State) : Run :=
  match a with
  | .tune slot repeats => scheduleTune k slot repeats s
  | .toll b count interval => scheduleToll k b count interval s
  | .swing bells duration => scheduleSwing k bells duration s

/-- R155: a one-shot is disabled when it fires or is passed. -/
def disableOneShot (k : EntryNo) (e : Entry) (s : State) : State := if e.oneShot.isSome then disableEntry k s else s

/-- R154: an entry fires for local date `d`; the FIRE hits go after what the action raises and before the CHANGED of a
one-shot (log 57). -/
def fireEntry (k : EntryNo) (e : Entry) (d : Date) (s : State) : State :=
  let s := (s.setEntry k (some { e with lastFired := some d })).onSched fun c => { c with fired := bump16 c.fired }
  let s := fireWatch (.entry k) .entryFired (settle (handOn k e.action s))
  disableOneShot k e s

/-- R154: an entry is tested for minute `m` of local date `d`, and fires if it must. -/
def tryEntry (d : Date) (m : Nat) (k : EntryNo) (s : State) : State :=
  match s.entries[k] with
  | some e => if s.fires e d m then fireEntry k e d s else s
  | none => s

/-- R154: every entry in ascending index. -/
def fireMinute (d : Date) (m : Nat) (s : State) : State := forAll allEntries (tryEntry d m) s

/-- R155: an enabled one-shot whose date is past. -/
def Entry.overdue (e : Entry) (today : Date) : Bool :=
  e.enabled && e.oneShot.any fun o => decide (dateKey o < dateKey today)

/-- R155: the expiry of one entry. -/
def expireEntry (k : EntryNo) (s : State) : State :=
  match s.entries[k] with
  | some e =>
      if e.overdue s.tb.loc.date then
        (disableEntry k s).onSched fun c => { c with expired := bump16 c.expired }
      else s
  | none => s

/-- R155: expiry at a minute event or jump event. -/
def expireEntries (s : State) : State := forAll allEntries expireEntry s

/-- R154, R155: what the Schedule does at a minute event: expiries first, in ascending index, then the firings (log
45). -/
def scheduleMinute (s : State) : State :=
  let s := expireEntries s
  if s.tb.validity = .unset then s else fireMinute s.tb.loc.date s.tb.loc.minute s

/-! ### Jumps (R157 to R159) -/

/-- R157 stage 2: a last-fired later than the new local date is set to it. -/
def clampFired (today : Date) (k : EntryNo) (s : State) : State :=
  s.setEntry k (s.entries[k].map fun e =>
    { e with lastFired := e.lastFired.map fun l => if dateKey today < dateKey l then today else l })

/-- The local minute after a local minute. -/
def nextMinute (d : Date) (m : Nat) : Date × Nat := if m < 1439 then (d, m + 1) else (nextDate d, 0)

/-- R158: fire `n` local minutes from minute `m` of date `d`, earliest first. -/
def catchUp : Nat → Date → Nat → State → State
  | 0, _, _, s => s
  | n + 1, d, m, s => catchUp n (nextMinute d m).1 (nextMinute d m).2 (fireMinute d m s)

/-- R159: an entry that would have fired on date `d` at a minute in `lo … hi − 1` is marked as passed. -/
def passEntry (d : Date) (lo hi : Nat) (k : EntryNo) (s : State) : State :=
  match s.entries[k] with
  | some e =>
      let t := s.triggerMinute e.trigger d
      if e.enabled && decide (lo ≤ t) && decide (t < hi) && e.applies d && e.unfired d then
        disableOneShot k e
          ((s.setEntry k (some { e with lastFired := some d })).onSched fun c => { c with passed := bump16 c.passed })
      else s
  | none => s

/-- R159: the span from minute `lo` of date `d`, over `n` further dates, up to minute `stop` of the last. -/
def passSpan : Nat → Date → Nat → Nat → State → State
  | 0, d, lo, stop, s => forAll allEntries (passEntry d lo stop) s
  | n + 1, d, lo, stop, s => passSpan n (nextDate d) 0 stop (forAll allEntries (passEntry d lo 1440) s)

/-- The old local minute of a jump, counted across dates. -/
def Jump.oldMinute (j : Jump) : Int := minuteIndex j.old.date j.old.minute

/-- The new local minute of a jump, counted across dates. -/
def Jump.newMinute (j : Jump) : Int := minuteIndex j.new.date j.new.minute

/-- R157: the first minute of the span: the one after the old minute, or that minute itself at a SUMMER CHANGE. -/
def Jump.spanStart (j : Jump) : Date × Nat :=
  if j.cause = .summerChange then (j.old.date, j.old.minute) else nextMinute j.old.date j.old.minute

/-- R157 stage 4: the minutes that a forward jump passed over. -/
def dealWithSpan (j : Jump) (s : State) : State :=
  let length := (j.newMinute - j.oldMinute).toNat
  let start := j.spanStart
  let n := (j.newMinute - minuteIndex start.1 start.2).toNat
  if n = 0 then s
  else if length ≤ s.sched.catchUp then catchUp n start.1 start.2 s
  else passSpan (dayCount j.new.date - dayCount start.1).toNat start.1 start.2 j.new.minute s

/-- R157: what the Schedule does at a jump event. -/
def scheduleJump (j : Jump) (s : State) : State :=
  let s := forAll allEntries (clampFired j.new.date) (expireEntries s)
  if s.tb.validity = .unset then s
  else
    let s := if j.oldValid && j.forward then dealWithSpan j s else s
    if j.newMinute = j.oldMinute then s else fireMinute j.new.date j.new.minute s

end Sys2Proof.Machine
end

