-- ==== Sys2Proof/Machine/TimeBase.lean ====
section
/-! DEFINITION. The time base's events (01): jump events and minute events with what each consumer does, the summer
change, HOLDOVER and the end of the range. -/

namespace Sys2Proof.Machine

/-! ### Holding due times when the tower ms line moves (R2, R13, R88, R128, R176) -/

/-- R128: a drive's stop time moves; one that has ended its swing is found no more (R145), and stands as it was to the
outcome (R141, log 44). -/
def Drive.shift (delta : Int) (x : Drive) : Drive :=
  if x.cause = .ended then x else { x with stopTime := x.stopTime.map (· + delta) }

/-- R176: a minutes force's expiry moves. -/
def shiftForce (delta : Int) (f : Force) : Force :=
  match f.expiry with
  | .tower t => { f with expiry := .tower (t + delta) }
  | .untilChange => f

/-- R176: a circuit's expiry moves. -/
def Circuit.shift (delta : Int) (x : Circuit) : Circuit := { x with force := x.force.map (shiftForce delta) }

/-- R2, R88, R128, R176: every due time, stop time and expiry moves with the tower ms line. -/
def shiftLine (delta : Int) (s : State) : State :=
  let s := shiftStrikes delta s
  let s := forAll allDrives (fun d s => s.onDrive d (Drive.shift delta)) s
  forAll allCircuits (fun c s => s.onCircuit c (Circuit.shift delta)) s

/-! ### Jump events (R12) -/

/-- R12: a jump event reaches DD, HE, SCH and FC, due times first (log 5). -/
def jumpEvent (j : Jump) (s : State) : State :=
  let s := if j.cause = .timeSet then shiftLine j.delta s else s
  let s := reconcileDials s
  let s := settle (hourJump j s)
  let s := scheduleJump j s
  settle (evaluatePlan s)

/-- R11, R14: the present instant is a minute boundary that no minute event and no jump event has stood for yet. -/
def State.boundaryUnseen (s : State) : Bool :=
  s.running && s.tb.atMinute && !(s.tb.lastSeen.stdDate == s.tb.date && s.tb.lastSeen.stdMinute == s.tb.stdMinute)

/-- R4, R15: the local time that a TIME SET or a DST RULE WRITE taken now leaves. A boundary whose event still waits is
not reached when the request is taken first, so the time left is one before it. DESIGN CHOICE (log 66, and log 63 for
the write): the last whole second before it. -/
def State.localLeft (s : State) : DayTime := if s.boundaryUnseen then s.tb.loc.secondBefore else s.tb.loc

/-- R12: the jump from the local time left under the old time base to the present one. -/
def State.jumpFrom (s : State) (old : TimeBase) (left : DayTime) (cause : TimeCause) : Jump :=
  { old := left, new := s.tb.loc, cause := cause, oldValid := old.validity != .unset,
    delta := s.tb.towerMs - old.towerMs }

/-- R194: a TIME CHANGED to all stations. -/
def timeChanged (cause : TimeCause) (s : State) : State := notifyAll (.timeChanged cause s.tb.info) s

/-- R7: what follows where a write of a rule has moved local time on from that of the state `old`. -/
def ruleJump (old s : State) : State :=
  timeChanged .ruleChange ((jumpEvent (s.jumpFrom old.tb old.localLeft .ruleChange) s).onTb TimeBase.see)

/-- R7: the record is replaced, and the summer state is decided for the current instant. -/
def writeRule (rule : DstRule) (s : State) : State :=
  let old := s
  let s := s.onTb fun t => { t with rule := rule }.redecide
  let s := if s.tb.offset ≠ old.tb.offset then ruleJump old s else s
  settle (evaluatePlan s)

/-- R4: the time base right after the step. -/
def TimeBase.step (tb : TimeBase) (date : Date) (secs : Nat) : TimeBase :=
  { { tb with date := date, secs := secs, ms := 0 }.redecide with validity := .valid, sinceSet := 0 }

/-- R4: an accepted TIME SET from a station. -/
def setTime (n : Station) (date : Date) (secs : Nat) (s : State) : State :=
  let old := s
  let s := s.onTb fun t => t.step date secs
  let s := (jumpEvent (s.jumpFrom old.tb old.localLeft .timeSet) s).onTb TimeBase.see
  notifyOthers n (.timeChanged .timeSet s.tb.info) s

/-! ### The boundary of a minute (R9 to R11) -/

/-- R9: the decision at the present minute boundary. -/
def TimeBase.decision (tb : TimeBase) : Season := decideSummer tb.rule tb.date tb.stdMinute

/-- R42: a minute event that carries UNSET ends an impulse in flight, and the dials become STOPPED. They are STOPPED
already when a closing held during that impulse is taken, so it is recorded only (log 52). -/
def dialsMinute (s : State) : State :=
  if s.tb.validity = .unset then
    forAll allDials (fun d s => if s.dials[d].present then decideDial d s.dials[d].inFlight.isSome (cutDial d s) else s) s
  else s

/-- R11: a minute event reaches DD, HE, SCH, FC and TP (log 5). -/
def minuteEvent (s : State) : State :=
  let s := dialsMinute (s.onTb fun t => t.redecide.see)
  let s := settle (hourMinute s)
  let s := scheduleMinute s
  let s := settle (evaluatePlan s)
  settle (testHead s)

/-- R11: the present instant is a minute boundary whose minute event has still to be issued (log 4). -/
def State.minuteDue (s : State) : Bool := s.boundaryUnseen && s.tb.decision == s.tb.summer

/-- R10: the decision at a standard minute boundary differs from the state held. -/
def TimeBase.changeDue (tb : TimeBase) : Bool := tb.atMinute && tb.decision != tb.summer

/-- R10: the held state changes; while the part runs, one jump event stands for the boundary, and its old local time is
the boundary itself. -/
def summerChange (s : State) : State :=
  let old := s.tb
  let s := s.onTb TimeBase.redecide
  if s.running then
    timeChanged .summerChange ((jumpEvent (s.jumpFrom old old.loc .summerChange) s).onTb TimeBase.see)
  else s

/-! ### HOLDOVER and the end of the range (R2, R3) -/

/-- R3: the since-set count has reached 48 h in VALID. -/
def TimeBase.holdoverDue (tb : TimeBase) : Bool := tb.validity == .valid && decide (Config.holdoverMs ≤ tb.sinceSet)

/-- R3: validity becomes HOLDOVER. -/
def holdover (s : State) : State :=
  let s := s.onTb fun t => { t with validity := .holdover }
  if s.running then timeChanged .holdover s else s

/-- R2: the time base right after the end of the range. -/
def TimeBase.wrap (tb : TimeBase) : TimeBase :=
  { tb with date := firstDate, secs := 0, ms := 0, validity := .unset, sinceSet := 0 }.redecide

/-- R2: standard time passes the end of 2099: the line falls from the ms after the last one. -/
def rangeEnd (s : State) : State :=
  let old := s.tb
  let s := s.onTb TimeBase.wrap
  let s := shiftLine (s.tb.towerMs - (old.towerMs + 1)) s
  if s.running then timeChanged .rangeEnd s else s

end Sys2Proof.Machine
end

