-- ==== Sys2Proof/Machine/Power.lean ====
section
/-! DEFINITION. The stop of the part and its starts (R17 to R23), each block by its own rule (R45 to R47, R70, R71,
R99, R100, R122, R146, R147, R164, R184, R185, R200). -/

namespace Sys2Proof.Machine

/-! ### The stop (R18) -/

/-- R45: an impulse is cut, and the volatile fields are lost. -/
def Dial.stop (dial : DialNo) (timer : Nat) (d : Dial) : Dial :=
  { d.cut dial timer with
    lastClosure := none, lastStart := none, expect := .closed, reported := none, heldClosing := false,
    holdBack := false }

/-- R70: holder, behalf, pending list and skipped count are lost. -/
def Bell.stop (b : Bell) : Bell := { b with holder := .clock, behalf := none, waiting := [], skipped := 0 }

/-- R99: coils off, no window. -/
def Hammer.stop (h : Hammer) : Hammer := { h with pulse := none, window := none }

/-- R184: the contactor opens; state, force, plan-desired, cause and waits are lost. -/
def Circuit.stop (c : Circuit) : Circuit :=
  { c with state := .off, cause := .none, planOn := false, force := none, contactor := false, fbDeadline := none }

/-- R99: what HE loses at the stop beside its hammers. -/
def stopEngine (s : State) : State :=
  { s with
    hammers := s.hammers.map Hammer.stop, marks := Vector.replicate 12 noMarks, strikes := [], hour := idleHour,
    tollQueue := [], toll := none, snapshot := none }

/-- R186: the enabled field of a link as the retained store holds it: a write is stored when it is accepted (section
1.7), and takes effect once its reply has been sent (log 9). -/
def State.storedEnabled (s : State) (n : Station) : Bool := s.linkSettings[n]

/-- R184, R201: the contactors open at a stop, and the feedback inputs of those that were closed read absent until
current is reported again (log 14). -/
def Pins.dark (circuits : Vector Circuit 8) (p : Pins) : Pins :=
  { p with feedback := Vector.ofFn fun c => p.feedback[c] && !circuits[c].contactor }

/-- R18: every block but the time base and the retained store stops. -/
def stopPart (s : State) : State :=
  { stopEngine s with
    pins := s.pins.dark s.circuits,
    dials := Vector.ofFn fun d => s.dials[d].stop d s.timer, bells := s.bells.map Bell.stop,
    leases := Vector.replicate 3 startLease, player := startPlayer s.player.waitLimit,
    drives := s.drives.map fun d => d.startVolatile s.timer, sched := startSched s.sched.catchUp,
    circuits := s.circuits.map Circuit.stop, gate := startGate s.gate.stagger s.gate.limit,
    links := s.linkSettings.map startLink, watches := noWatches }

/-! ### A warm start (R20) -/

/-- R70: a bell whose drive is not DOWN takes holder SWING. -/
def restoreBell (b : BellNo) (s : State) : State :=
  if s.swingOf b = .down then s else s.onBell b fun x => { x with holder := .swing }

/-- R146: a drive restored in a state other than DOWN goes to SETTLE. -/
def Drive.restore (timer : Nat) (d : Drive) : Drive :=
  let d := d.startVolatile timer
  if d.state = .down then d else { d with state := .settle, deadline := some (timer + d.settle * 1000) }

/-- R122: a slot that was LOADING becomes EMPTY. -/
def Slot.restore (x : Slot) : Slot :=
  match x.state with
  | .loading => emptySlot
  | _ => x

/-- R184: the ms from the end of last-minute-seen to the present standard instant. -/
def TimeBase.sinceSeen (tb : TimeBase) : Int :=
  tb.towerMs - (minuteIndex tb.lastSeen.stdDate tb.lastSeen.stdMinute + 1) * 60000

/-- R184: a circuit at a warm start, `elapsed` ms after the loss; an absent one takes the same last-open (log 46). -/
def Circuit.restore (timer : Nat) (elapsed : Int) (c : Circuit) : Circuit :=
  let c := { c with lastOpen := (timer : Int) - elapsed, fbFrom := timer }
  { c with state := if !c.present || c.delayPassed timer then .off else .cooling }

/-- R20 stage 1: every block restores its retained items. -/
def restore (s : State) : State :=
  let s := s.onTb fun t => { t with lastStart := .warm, lastCheckGood := true }.redecide
  let s := { s with
    hammers := s.hammers.map fun h => { h with lastPulse := s.timer }, slots := s.slots.map Slot.restore,
    drives := s.drives.map (Drive.restore s.timer),
    circuits := s.circuits.map (Circuit.restore s.timer s.tb.sinceSeen),
    gate := startGate s.gate.stagger s.pins.supplyLimit }
  forAll allBells restoreBell s

/-- R20 stage 2: the jump from last-minute-seen. -/
def State.warmJump (s : State) : Jump :=
  { old := ⟨s.tb.lastSeen.localDate, s.tb.lastSeen.localMinute * 60⟩, new := s.tb.loc, cause := .warmStart,
    oldValid := true, delta := 0 }

/-- R20 stages 2 and 3; the TIME CHANGED is the first notice of each queue (R200, log 6). -/
def warmAnnounce (s : State) : State :=
  let s := reconcileDials (timeChanged .warmStart s)
  if s.tb.validity = .unset then s else (jumpEvent s.warmJump s).onTb TimeBase.see

/-- R19: RESET is asserted, or mains lost, during the start: the stop is the very next command (log 6). The start is
then abandoned after its first stage. -/
def State.startCut (s : State) : Bool := s.pending.head? == some .resetAsserted || s.pending.head? == some .mainsLoss

/-- R19: what follows the first stage of a start, unless the start is abandoned. -/
def announceStart (f : State → State) (s : State) : State := if s.startCut then s else f s

/-- R20: a warm start. -/
def warmStart (s : State) : State := announceStart warmAnnounce (restore s)

/-! ### A cold start (R21) -/

/-- R21: every retained item takes its factory default, and every volatile item its start value. -/
def factoryState (s : State) : State :=
  { s with
    tb := coldTimeBase s.power.storeGood, power := { s.power with checkDiff := 0#32 },
    dials := Vector.replicate 4 factoryDial, bells := Vector.replicate 12 factoryBell, frame := factoryFrame,
    leases := Vector.replicate 3 startLease, hammers := Vector.replicate 12 (factoryHammer s.timer),
    marks := Vector.replicate 12 noMarks, strikes := [], plan := factoryPlan, hour := idleHour, tollQueue := [],
    toll := none, counters := zeroCounters, snapshot := none, slots := Vector.replicate 16 emptySlot,
    player := startPlayer factoryWaitLimit, drives := Vector.replicate 6 (factoryDrive s.timer),
    entries := Vector.replicate 96 none, windows := Vector.replicate 8 factoryWindow,
    sched := startSched factoryCatchUp, circuits := Vector.replicate 8 (factoryCircuit s.timer),
    floodPlan := Vector.replicate 16 factoryFloodPlan, duskTable := factoryDusk,
    gate := startGate factoryStagger s.pins.supplyLimit, links := Vector.replicate 3 (startLink true),
    linkSettings := Vector.replicate 3 true, rights := factoryRights, watches := noWatches }

/-- R21: what follows the factory defaults in a cold start. -/
def coldAnnounce (s : State) : State := reconcileDials (timeChanged .coldStart s)

/-- R21: a cold start. -/
def coldStart (s : State) : State := announceStart coldAnnounce (factoryState s)

/-- R17, R20: the check recomputed over the contents and the check held are compared, and decide the kind of start
(they agree where their difference is 0: `State.heldCheck_good`, log 7). -/
def startPart (s : State) : State := if s.power.storeGood then warmStart s else coldStart s

/-- R18, R19: the stop, when the part was running. -/
def stopIfRunning (s : State) : State := if s.running then stopPart s else s

/-- R20: the start, when neither stop condition holds. -/
def startIfClear (s : State) : State := if s.running then startPart s else s

/-- R22: what RESTART does once its reply has been sent. -/
def restartPart (s : State) : State := startPart (stopPart s)

/-- R23: what FACTORY CLEAR does once its reply has been sent. -/
def clearPart (s : State) : State := coldStart (stopPart s)

end Sys2Proof.Machine
end

