-- ==== Sys2Proof/Machine/Answers.lean ====
section
/-! DEFINITION. What an owner block answers to a request it takes (R190), and the checks that many owners share (R193). -/

namespace Sys2Proof.Machine

/-- What an owner makes of a request: the state with the reports still to run, the reply by the state they leave (log
20), and what takes effect once the reply has been sent. -/
structure Answer where
  run : Run
  reply : State → Reply
  after : After := .nothing

/-- A request that changes nothing. -/
def unchanged (r : Reply) (s : State) : Answer := ⟨quiet s, fun _ => r, .nothing⟩

/-- A refused request changes nothing. -/
def refused (r : Reason) (s : State) : Answer := unchanged (refuse r) s

/-- R191: REFUSED with BAD VALUE and the failing identity; nothing changes. -/
def refusedValue (v : Nat) (s : State) : Answer := unchanged (badValue v) s

/-- A read: DONE, with fields of the state as it stands. -/
def readout (p : Payload) (s : State) : Answer := unchanged (.done false p) s

/-- DONE, with result fields of the state the request leaves. -/
def doneWith (clamped : Bool) (p : State → Payload) (r : Run) : Answer := ⟨r, fun s => .done clamped (p s), .nothing⟩

/-- DONE, with no result fields. -/
def done (clamped : Bool) (r : Run) : Answer := doneWith clamped (fun _ => .none) r

/-- QUEUED. -/
def queued (clamped : Bool) (r : Run) : Answer := ⟨r, fun _ => .queued clamped, .nothing⟩

/-- R194: CHANGED to every station but the writer. -/
def changedBy (n : Station) (item : Item) (s : State) : State := announce item (.station n) s

/-- R193: the station's rights as they stand. -/
def State.rightsOf (s : State) (h : Head) : Rights := s.rights[h.station]

/-- R22, R193: INSTALL with the INSTALL KEY input asserted, as the install writes need it. -/
def installDenied (h : Head) (s : State) : Option Reason :=
  if !(s.rightsOf h).install then some .notPermitted
  else if !h.key then some .keyRequired
  else none

/-- A request that needs INSTALL and the key. -/
def withKey (h : Head) (s : State) (a : Answer) : Answer :=
  match installDenied h s with
  | some r => refused r s
  | none => a

/-- An identity that the owner's rule refuses BAD VALUE when it is out of range. -/
def withId {k : Nat} (v : Nat) (i : Option (Fin k)) (s : State) (f : Fin k → Answer) : Answer :=
  match i with
  | some x => f x
  | none => refusedValue v s

end Sys2Proof.Machine
end

