-- ==== Sys2Proof/Machine/BellRequests.lean ====
section
/-! DEFINITION. The Bell Frame's requests (R49 to R54, R60, R63, R66). -/

namespace Sys2Proof.Machine

/-- R52 to R55: the reply to a station's claim by its outcome. -/
def claimReply : ClaimOutcome → Reply
  | .granted => .done false .none
  | .alreadyHeld => .done false .none
  | .pending place => .pending false place
  | .busy => refuse .busy
  | .owned n => .refused .owned (.station n)
  | .noSuch => refuse .noSuch
  | .barred => refuse .barred

/-- R52. DESIGN CHOICE (log 37): the origin of a station's own claim is that station. -/
def takeBellClaim (h : Head) (bell : Nat) (s : State) : Answer :=
  if !(s.rightsOf h).ring then refused .notPermitted s
  else withId bell (ident1 12 bell) s fun b =>
    let c := claimBell b ⟨.station h.station, .station h.station, none, some h.tag, s.timer⟩ s
    ⟨c.run, fun _ => claimReply c.outcome, .nothing⟩

/-- R60. -/
def takeRelease (h : Head) (bell : Nat) (s : State) : Answer :=
  withId bell (ident1 12 bell) s fun b =>
    if !s.bells[b].present then refused .noSuch s
    else
      match s.has h.station b with
      | .pending => done false (removeClaim b (.station h.station) s)
      | .held => doneWith false (fun s => .holder s.bells[b].holder) (passOn b false .release s)
      | .behalf => done false (quiet (dropBehalf b h.station s))
      | .nothing => refused .notOwner s

/-- R63: an accepted keepalive opens the next window and clears the lapse count. -/
def renewLease (n : Station) (s : State) : State :=
  s.onLease n fun l =>
    { l with lease := .running (s.timer + Config.keepMinMs) (s.timer + s.frame.keepMax * 1000), lapses := 0 }

/-- R63: the deadline of a lease. -/
def Lease.deadline : Lease → Option Nat
  | .idle => none
  | .first d => some d
  | .running _ d => some d

/-- R63: DONE with lease result HELD and the new deadline. -/
def keptLease (n : Station) (s : State) : Answer :=
  let s := renewLease n s
  readout (.lease (.held (s.leases[n].lease.deadline.getD 0))) s

/-- R63. -/
def takeKeepalive (h : Head) (s : State) : Answer :=
  match s.leases[h.station].lease with
  | .idle => readout (.lease .idle) s
  | .first _ => keptLease h.station s
  | .running opens _ =>
      if s.timer < opens then doneWith false (fun _ => .lease .lapsed) (lapse h.station s) else keptLease h.station s

/-- R51: the age of a moment on the interval timer. -/
def State.age (s : State) (since : Nat) : Nat := s.timer - since

/-- R51. -/
def takeBellRead (bell : Nat) (s : State) : Answer :=
  withId bell (ident1 12 bell) s fun b =>
    let x := s.bells[b]
    readout (.bellRead x (x.waiting.map fun c => ⟨c, s.age c.since⟩) (s.driveOf b) s.marks[b] (s.swingOf b)) s

/-- R51: a station's lease as FRAME READ shows it. -/
def State.leaseView (s : State) (n : Station) : LeaseView :=
  let l := s.leases[n]
  ⟨l.lease, l.lease.deadline.map (· - s.timer), l.lapses, l.barred⟩

/-- R51. -/
def takeFrameRead (s : State) : Answer :=
  readout (.frameRead (allBells.map fun b => (s.bells[b].holder, s.bells[b].behalf)) s.frame
    (allStations.map s.leaseView)) s

/-- R66, R194: the bar is lifted and the lapse count cleared; every station but the one that asked is told. -/
def unbar (n who : Station) (s : State) : State :=
  announce (.stationState n) (.station who) (s.onLease n fun l => { l with lapses := 0, barred := false })

/-- R66. -/
def takeStationUnbar (h : Head) (station : Nat) (s : State) : Answer :=
  if !(s.rightsOf h).install then refused .notPermitted s
  else withId station (ident1 3 station) s fun n => done false (quiet (unbar n h.station s))

/-- R49: a bell may be made absent. -/
def State.bellIdle (s : State) (b : BellNo) : Bool :=
  s.bells[b].holder == .clock && s.bells[b].waiting.isEmpty && !s.inSequence b && s.swingOf b == .down

/-- R49; the CHANGED goes before the CHANGE hits (log 57). -/
def takeInstallWriteBell (h : Head) (bell : Nat) (present : Bool) (s : State) : Answer :=
  withKey h s <| withId bell (ident1 12 bell) s fun b =>
    if s.bells[b].present && !present && !s.bellIdle b then refused .busy s
    else
      let s := s.onBell b fun x => { x with present := present }
      let s := changedBy h.station (.bellInstall b) s
      done false (quiet (changeWatch (.bell b) (.written .installBell) (.station h.station) s))

/-- R50. -/
def takeInstallWriteFrame (h : Head) (keepMax barLimit : Nat) (s : State) : Answer :=
  withKey h s <|
    done (outside 2 30 keepMax || outside 0 15 barLimit)
      (quiet (changedBy h.station .frameSettings { s with frame := ⟨clamp 2 30 keepMax, clamp 0 15 barLimit⟩ }))

end Sys2Proof.Machine
end

