-- ==== Sys2Proof/Machine/DialRequests.lean ====
section
/-! DEFINITION. The Dial Driver's requests (R25, R38 to R41). -/

namespace Sys2Proof.Machine

/-- Section 2.6: the checks that DIAL SET, DIAL STOP and DIAL RUN share. -/
def onPresentDial (h : Head) (dial : Nat) (s : State) (f : DialNo → Answer) : Answer :=
  if !(s.rightsOf h).time then refused .notPermitted s
  else withId dial (ident1 4 dial) s fun d => if s.dials[d].present then f d else refused .noSuch s

/-- Section 2.6: an accepted request is a write of the dial record by its station, told after the dial has been decided
(log 57). -/
def dialWritten (r : WatchedWrite) (n : Station) (d : DialNo) (s : State) : State :=
  changeWatch (.dial d) (.written r) (.station n) (changedBy n (.dial d) s)

/-- R37: a DIAL SET that puts P outside the band around the top of the face closes the expectation. -/
def Dial.leaveBand (d : Dial) : Dial :=
  if d.pos ≤ 10 ∨ d.n - 10 ≤ d.pos then d else { d with expect := .closed }

/-- R38: the fields that DIAL SET sets, after an impulse in flight has been cut. -/
def Dial.setPosition (position : Nat) (known : Bool) (polarity : Option Polarity) (d : Dial) : Dial :=
  { d with pos := position, known := known, lastPol := polarity.getD d.lastPol }.leaveBand

/-- R38: the result fields. -/
def dialSetResult (d : DialNo) (s : State) : Payload :=
  let x := s.dials[d]
  .dialSet x.pos (x.target s.tb.loc.secs) (x.distance s.tb.loc.secs) (s.dialState d) (x.stops s.tb.validity)

/-- R38. -/
def takeDialSet (h : Head) (dial position : Nat) (known : Bool) (polarity : Option Polarity) (s : State) : Answer :=
  onPresentDial h dial s fun d =>
    if s.dials[d].n ≤ position then refusedValue position s
    else
      doneWith false (dialSetResult d)
        (quiet (dialWritten .dialSet h.station d
          (decideDial d s.dials[d].inFlight.isSome
            ((cutDial d s).onDial d (Dial.setPosition position known polarity)))))

/-- R39; one that changes nothing tells nobody (log 60). -/
def takeDialStop (h : Head) (dial : Nat) (s : State) : Answer :=
  onPresentDial h dial s fun d =>
    let result := fun (s : State) => Payload.dialStop (s.dialState d) s.dials[d].pos s.dials[d].lastPol
    if !s.dials[d].runEnable then readout (result s) s
    else
      doneWith false result
        (quiet (dialWritten .dialStop h.station d
          (decideDial d s.dials[d].inFlight.isSome ((cutDial d s).onDial d fun x => { x with runEnable := false }))))

/-- R40; one that changes nothing tells nobody (log 60). -/
def takeDialRun (h : Head) (dial : Nat) (s : State) : Answer :=
  onPresentDial h dial s fun d =>
    let result := fun (s : State) => Payload.dialRun (s.dialState d) (s.dials[d].stops s.tb.validity)
    if s.dials[d].runEnable && s.dials[d].fault == .none then readout (result s) s
    else
      doneWith false result
        (quiet (dialWritten .dialRun h.station d
          (decideDial d false (s.onDial d fun x => { x with runEnable := true, fault := .none }))))

/-- R41: the time the hands show, in seconds into the twelve-hour face. -/
def Dial.shown (d : Dial) : Option Nat :=
  if d.known then some (if d.pos = 0 then 43200 else d.pos * d.step.secs) else none

/-- R24, R41: the elapsed width of an impulse; in the gap of a pair the POS pulse's whole width has elapsed (log 51). -/
def Impulse.elapsed (i : Impulse) (timer : Nat) : Nat := min (timer - i.start) i.width

/-- R41. -/
def takeDialRead (dial : Nat) (s : State) : Answer :=
  withId dial (ident1 4 dial) s fun d =>
    let x := s.dials[d]
    readout
      (.dialRead x (x.inFlight.map fun i => i.elapsed s.timer) (x.target s.tb.loc.secs) (x.distance s.tb.loc.secs)
        (s.dialState d) (x.stops s.tb.validity) x.shown (x.expect != .closed)) s

/-- R25: the step a request carries. -/
def readStepSecs (v : Nat) : Option DialStep :=
  if v = 30 then some .s30 else if v = 60 then some .s60 else none

/-- R25: W, F and H clamped, and W then brought below F. -/
def clampDial (r : DialInstall) : DialInstall :=
  let w := clamp 100 1000 r.width
  let f := clamp 1 10 r.fast
  { r with width := if w < f * 1000 then w else f * 1000 - 100, fast := f, hold := clamp 0 360 r.hold }

/-- R25: the fields replaced, and what their changes reset. -/
def Dial.install (r : DialInstall) (step : DialStep) (d : Dial) : Dial :=
  let old := d
  let d := { d with
    present := r.present, step := step, syncFitted := r.syncFitted, autoCorrect := r.autoCorrect, width := r.width,
    fast := r.fast, hold := r.hold }
  let d := if old.step = step then d else { d with pos := 0, known := false, expect := .closed }
  let d := if r.present then d else { d with expect := .closed }
  if r.syncFitted then d else { d with expect := .closed, absent := 0, syncWarn := false }

/-- R25; the CHANGED goes before the CHANGE hits (log 57). -/
def takeInstallWriteDial (h : Head) (dial : Nat) (r : DialInstall) (s : State) : Answer :=
  withKey h s <| withId dial (ident1 4 dial) s fun d =>
    match readStepSecs r.step with
    | none => refusedValue r.step s
    | some step =>
      let ended := s.dials[d].inFlight.isSome
      let s := (cutDial d s).onDial d (Dial.install (clampDial r) step)
      let s := changedBy h.station (.dialInstall d) s
      let s := changeWatch (.dial d) (.written .installDial) (.station h.station) s
      done (clampDial r != r) (quiet (decideDial d ended s))

end Sys2Proof.Machine
end

