-- ==== Sys2Proof/Machine/FloodRequests.lean ====
section
/-! DEFINITION. The requests of the Flood Controller and of the Start Gate (R166, R173, R175 to R178, R181). -/

namespace Sys2Proof.Machine

/-! ### The dusk/dawn table and the flood plan (R173, R175) -/

/-- R173: the entries of a write, put from its first index on. -/
def putSuns (first : Nat) (l : List SunPair) (t : Vector SunPair 24) : Vector SunPair 24 :=
  match l with
  | [] => t
  | p :: rest => putSuns (first + 1) rest (if h : first < 24 then put t ⟨first, h⟩ (clampSun p) else t)

/-- R173. -/
def takeDuskTableWrite (h : Head) (first : Nat) (entries : List SunPair) (s : State) : Answer :=
  if !(s.rightsOf h).program then refused .notPermitted s
  else if 24 ≤ first || 24 < first + entries.length then refusedValue first s
  else
    done (entries.any fun p => clampSun p != p)
      (evaluatePlan (changedBy h.station .duskTable { s with duskTable := putSuns first entries s.duskTable }))

/-- R173, R174. -/
def takeDuskTableRead (s : State) : Answer :=
  let d := s.tb.loc.date
  let o : Int := s.noonOffset d
  readout
    (.duskTable s.duskTable.toList (s.stdDusk d, s.stdDawn d) (s.stdDusk d + o, s.stdDawn d + o)) s

/-- R175: the entry that a write carries; none when a part is refused BAD VALUE. -/
def readFloodPlan (b : FloodPlanBody) : Option FloodPlan := do
  let on ← readTrigger b.on
  let off ← readTrigger b.off
  if windowOk b.window then
    return { enabled := b.enabled, circuits := b.circuits, days := b.days, window := b.window, on := on, off := off }
  else none

/-- R175: the number of a plan entry that is refused BAD VALUE (log 28). -/
def badPlanEntry (b : FloodPlanBody) : Nat :=
  match b.on, b.off with
  | .other k, _ => k
  | _, .other k => k
  | _, _ =>
    match b.window with
    | some (x, y) => if realMonthDay x then monthDayKey y else monthDayKey x
    | none => 0

/-- R175. -/
def takeFloodPlanWrite (h : Head) (index : Nat) (b : FloodPlanBody) (s : State) : Answer :=
  if !(s.rightsOf h).program then refused .notPermitted s
  else withId index (ident0 16 index) s fun i =>
    match readFloodPlan b with
    | none => refusedValue (badPlanEntry b) s
    | some e =>
        done (triggerClamped b.on || triggerClamped b.off)
          (evaluatePlan (changedBy h.station (.planEntry i) { s with floodPlan := put s.floodPlan i e }))

/-- R175: an entry's on and off minutes for a date. -/
def State.planMinutes (s : State) (p : FloodPlan) (d : Date) : Nat × Nat :=
  (s.triggerMinute p.on d, s.triggerMinute p.off d)

/-- R175. -/
def takeFloodPlanRead (index : Nat) (s : State) : Answer :=
  withId index (ident0 16 index) s fun i =>
    let p := s.floodPlan[i]
    let d := s.tb.loc.date
    readout (.floodPlan p (s.planMinutes p d) (s.planMinutes p (prevDate d))) s

/-! ### Forces (R176, R177) -/

/-- R176: the checks that FLOOD FORCE and FLOOD CLEAR share. -/
def onCircuitOf (h : Head) (circuit : Nat) (s : State) (f : CircuitNo → Answer) : Answer :=
  if !(s.rightsOf h).light then refused .notPermitted s
  else withId circuit (ident1 8 circuit) s fun c => if s.circuits[c].present then f c else refused .noSuch s

/-- R176: the expiry that a request carries. -/
def State.readExpiry (s : State) : ExpiryBody → Expiry
  | .minutes n => .tower (roundUpMinute (s.now + (clamp 1 1440 n : Nat) * 60000))
  | .untilChange => .untilChange

/-- R176: reading the expiry clamps it. -/
def expiryClamped : ExpiryBody → Bool
  | .minutes n => outside 1 1440 n
  | .untilChange => false

/-- R176, R177: a write of a circuit's force reaches the other stations and, after them, their CHANGE watches (log
57). -/
def forceWritten (r : WatchedWrite) (n : Station) (c : CircuitNo) (s : State) : State :=
  changeWatch (.circuit c) (.written r) (.station n) (changedBy n (.circuitForce c) s)

/-- R176; the CHANGED is queued before what the move raises (log 57). -/
def takeFloodForce (h : Head) (circuit : Nat) (level : Bool) (expiry : ExpiryBody) (s : State) : Answer :=
  onCircuitOf h circuit s fun c =>
    let e := s.readExpiry expiry
    let s := s.onCircuit c fun x => { x with force := some ⟨level, h.station, e⟩ }
    doneWith (expiryClamped expiry) (fun s => .flood s.circuits[c].state e)
      (moveCircuit c (forceWritten .floodForce h.station c s))

/-- R177: the force is removed and the circuit leaves FAULT; the CHANGED is queued before what the moves raise (log
57). -/
def clearForce (n : Station) (c : CircuitNo) (s : State) : Run :=
  let s := forceWritten .floodClear n c (s.onCircuit c fun x => { x with force := none })
  (leaveFault c s).andThen (moveCircuit c)

/-- R177; one that finds neither force nor fault changes nothing, and tells nobody (DESIGN CHOICE for the CHANGE watches
of R197: log 60). -/
def takeFloodClear (h : Head) (circuit : Nat) (s : State) : Answer :=
  onCircuitOf h circuit s fun c =>
    let x := s.circuits[c]
    if x.force.isNone && x.state != .fault then readout (.floodState x.state) s
    else doneWith false (fun s => .floodState s.circuits[c].state) (clearForce h.station c s)

/-! ### Reading circuits and the gate (R178, R181) -/

/-- R178: the ms left of the restrike delay, in COOLING. -/
def Circuit.restrikeLeft (x : Circuit) (timer : Nat) : Option Int :=
  if x.state = .cooling then some (max 0 (x.lastOpen + (x.restrike : Int) * 60000 - timer)) else none

/-- R178: the plan entries that hold a circuit's plan-desired ON. DESIGN CHOICE (log 72): those that hold it at the
present local moment, also where the evaluation of that moment's minute has still to come. -/
def State.plansHolding (s : State) (c : CircuitNo) : List (Fin 16) :=
  if s.planLevel c then s.plansOn c s.tb.loc.date s.tb.loc.minute else []

/-- R178. -/
def takeFloodRead (circuit : Nat) (s : State) : Answer :=
  withId circuit (ident1 8 circuit) s fun c =>
    let x := s.circuits[c]
    readout
      (.floodRead x (!x.present) x.desired (x.restrikeLeft s.timer) (x.expiryAt.map (· - s.now)) (s.plansHolding c)
        s.pins.feedback[c] (s.gate.place (.circuit c))) s

/-- R178. -/
def takeFloodStatus (s : State) : Answer :=
  readout
    (.floodStatus (allCircuits.map fun c => (s.circuits[c].state, s.circuits[c].planOn, s.circuits[c].force))) s

/-- R181. -/
def takeGateRead (s : State) : Answer :=
  let g := s.gate
  readout
    (.gateRead (g.queue.map fun r => (r.who, s.timer - r.since)) g.limit (g.lastGrant.map (s.timer - ·)) g.stagger
      g.grants) s

/-- R181. -/
def takeInstallWriteGate (h : Head) (stagger : Nat) (s : State) : Answer :=
  withKey h s <|
    done (outside 1 10 stagger)
      (quiet (changedBy h.station .gateSettings (s.onGate fun g => { g with stagger := clamp 1 10 stagger })))

/-! ### Installing a circuit (R166) -/

/-- R166: the circuit may not be made absent. -/
def Circuit.inUse (x : Circuit) : Bool :=
  x.state == .waiting || x.state == .closing || x.state == .on || x.force.isSome

/-- R166: the three fields replaced; feedback that becomes present is tested from now on. -/
def Circuit.install (r : CircuitInstall) (timer : Nat) (x : Circuit) : Circuit :=
  { x with
    present := r.present, restrike := r.restrike, fbPresent := r.fbPresent,
    fbFrom := if r.fbPresent && !x.fbPresent then timer else x.fbFrom }

/-- R166: a circuit that is made absent. -/
def makeAbsent (c : CircuitNo) (s : State) : State :=
  setCircuit c .off (s.onCircuit c fun x => { x with cause := .none, planOn := false })

/-- R166: a circuit that is made present: COOLING or OFF, and its plan-desired is evaluated. -/
def makePresent (c : CircuitNo) (s : State) : Run :=
  let s := s.onCircuit c fun x => { x with fbFrom := s.timer }
  evaluateCircuit c (setCircuit c (s.circuits[c].dark s.timer) s)

/-- R166: a circuit that stays present judges its delay and its feedback by the new values. -/
def reviewCircuit (c : CircuitNo) (s : State) : Run :=
  let x := s.circuits[c]
  match x.state with
  | .cooling => endRestrike c s
  | .off => if x.delayPassed s.timer then quiet s else quiet (setCircuit c .cooling s)
  | .waiting => if x.delayPassed s.timer then quiet s else gateLeave (.circuit c) (setCircuit c .cooling s)
  | .closing => if x.fbPresent then quiet s else quiet (circuitLit c s)
  | _ => quiet s

/-- R166: an accepted write; the CHANGED goes before the CHANGE hits (log 57). -/
def installCircuit (n : Station) (c : CircuitNo) (r : CircuitInstall) (s : State) : Run :=
  let was := s.circuits[c].present
  let s := s.onCircuit c (Circuit.install r s.timer)
  let s := changeWatch (.circuit c) (.written .installCircuit) (.station n) (changedBy n (.circuitInstall c) s)
  if !r.present then quiet (if was then makeAbsent c s else s)
  else if was then reviewCircuit c s
  else makePresent c s

/-- R166. -/
def takeInstallWriteCircuit (h : Head) (circuit : Nat) (r : CircuitInstall) (s : State) : Answer :=
  withKey h s <| withId circuit (ident1 8 circuit) s fun c =>
    if s.circuits[c].present && !r.present && s.circuits[c].inUse then refused .busy s
    else done (outside 0 15 r.restrike) (installCircuit h.station c { r with restrike := clamp 0 15 r.restrike } s)

end Sys2Proof.Machine
end

