-- ==== Sys2Proof/Machine/HammerRequests.lean ====
section
/-! DEFINITION. The Hammer Engine's requests (R73, R74, R82, R89, R92 to R94, R96, R97). -/

namespace Sys2Proof.Machine

/-! ### Hammers (R73, R74) -/

/-- R74. -/
def Hammer.clear (h : Hammer) : Hammer := { h with ok := true, cause := .none, misses := 0 }

/-- R74; one that changes nothing tells nobody (log 60). -/
def takeHammerClear (h : Head) (bell : Nat) (s : State) : Answer :=
  if !(s.rightsOf h).ring then refused .notPermitted s
  else withId bell (ident1 12 bell) s fun b =>
    if s.hammers[b].ok && s.hammers[b].misses == 0 then done false (quiet s)
    else done false (quiet (changedBy h.station (.hammer b) (s.onHammer b Hammer.clear)))

/-- R73: the four fields clamped; the recovery is at least the width plus 100 ms. -/
def clampHammer (r : HammerInstall) : HammerInstall :=
  let w := clamp 20 250 r.width
  { r with width := w, recovery := max (w + 100) (clamp 200 3000 r.recovery) }

/-- R73. -/
def Hammer.install (r : HammerInstall) (h : Hammer) : Hammer :=
  { h with
    fitted := r.fitted, sensor := r.sensor, width := r.width, recovery := r.recovery,
    window := if r.sensor then h.window else none }

/-- R73, R94: a window that closes with no outcome tells its test strike's source NO SENSOR. -/
def closeWindow (b : BellNo) (s : State) : State :=
  match s.hammers[b].window with
  | some w => tellTest w .noSensor s
  | none => s

/-- R73; the COMPLETE of a window that closes goes before the CHANGED (log 57). -/
def takeInstallWriteHammer (h : Head) (bell : Nat) (r : HammerInstall) (s : State) : Answer :=
  withKey h s <| withId bell (ident1 12 bell) s fun b =>
    let s := changedBy h.station (.hammerInstall b) (if r.sensor then s else closeWindow b s)
    done (clampHammer r != r) (raise (s.onHammer b (Hammer.install (clampHammer r))) [.strikes])

/-! ### Hand and test strikes (R93, R94) -/

/-- R93: the checks that HAND STRIKE and HAMMER TEST share, and those of TOLL after its first (R89). -/
def onHeldBell (h : Head) (bell : Nat) (s : State) (f : BellNo → Answer) : Answer :=
  if !(s.rightsOf h).ring then refused .notPermitted s
  else withId bell (ident1 12 bell) s fun b =>
    if !s.bells[b].present then refused .noSuch s
    else if s.bells[b].holder = .station h.station then f b
    else refused .notOwner s

/-- R93. -/
def takeHandStrike (h : Head) (bell delay : Nat) (s : State) : Answer :=
  onHeldBell h bell s fun b =>
    let due := s.now + (clamp 0 5000 delay : Nat)
    if s.canPost then
      doneWith (outside 0 5000 delay) (fun _ => .due due) (post b due (.hand h.station h.tag) s)
    else refused .full s

/-- R94. -/
def takeHammerTest (h : Head) (bell : Nat) (s : State) : Answer :=
  onHeldBell h bell s fun b =>
    if s.canPost then queued false (post b s.now (.test h.station h.tag) s) else refused .full s

/-! ### Tolls (R89, R92) -/

/-- R89. -/
def takeToll (h : Head) (bell count interval : Nat) (s : State) : Answer :=
  onHeldBell h bell s fun b =>
    if s.tollFull then refused .full s
    else
      queued (outside 1 120 count || outside 2 60 interval)
        (enqueueToll b (clamp 1 120 count) (clamp 2 60 interval) (.station h.station h.tag) s)

/-- R92: who may stop a toll. -/
def tollStoppable (h : Head) (t : Toll) (s : State) : Bool :=
  match t.source with
  | .entry _ => true
  | .station m _ => m == h.station || (s.rightsOf h).install

/-- R92: a toll that has ended and only awaits its mark's clearing is no current toll (log 17). -/
def State.currentToll (s : State) : Option TollRun := s.toll.filter fun r => r.clearAt.isNone

/-- R92. -/
def takeTollStop (h : Head) (s : State) : Answer :=
  if !(s.rightsOf h).ring then refused .notPermitted s
  else
    match s.currentToll with
    | none => refused .noSuch s
    | some r => if tollStoppable h r.toll s then done false (stopToll r s) else refused .notOwner s

/-! ### The strike plan (R82) -/

/-- R82: a slot of the plan: none, or one of T0 … T15. -/
def readSlot (v : Option Nat) : Option (Option SlotNo) :=
  match v with
  | none => some none
  | some n => (ident0 16 n).map some

/-- R82: the slot is out of range. -/
def badSlot (v : Option Nat) : Bool := v.any fun n => 15 < n

/-- R82: the first identity of the plan that is out of range. -/
def badPlanValue (p : PlanBody) : Nat :=
  if (ident1 12 p.hourBell).isNone then p.hourBell
  else if badSlot p.slot15 then p.slot15.getD 0
  else if badSlot p.slot30 then p.slot30.getD 0
  else if badSlot p.slot45 then p.slot45.getD 0
  else p.slot00.getD 0

/-- R82: the record that a write carries, clamped; none when an identity is out of range. -/
def readPlan (p : PlanBody) : Option StrikePlan := do
  let bell ← ident1 12 p.hourBell
  let q15 ← readSlot p.slot15
  let q30 ← readSlot p.slot30
  let q45 ← readSlot p.slot45
  let q00 ← readSlot p.slot00
  return { hourBell := bell, hourStrike := p.hourStrike, mode := p.mode, interval := clamp 1000 5000 p.interval,
           lateLimit := clamp 0 15 p.lateLimit, slot15 := q15, slot30 := q30, slot45 := q45, slot00 := q00,
           gap := clamp 0 10 p.gap }

/-- R82: reading the plan clamps it. -/
def planClamped (p : PlanBody) : Bool :=
  outside 1000 5000 p.interval || outside 0 15 p.lateLimit || outside 0 10 p.gap

/-- R82. -/
def takeStrikePlanWrite (h : Head) (p : PlanBody) (s : State) : Answer :=
  if !(s.rightsOf h).program then refused .notPermitted s
  else
    match readPlan p with
    | none => refusedValue (badPlanValue p) s
    | some plan =>
        if !s.bells[plan.hourBell].present then refused .noSuch s
        else done (planClamped p) (quiet (changedBy h.station .strikePlan { s with plan := plan }))

/-- R82. -/
def takeStrikePlanRead (s : State) : Answer := readout (.strikePlan s.plan) s

/-! ### Counters (R96) -/

/-- R96: with CLEAR, every live counter is 0 and every open window is not to be counted. -/
def clearCounters (n : Station) (s : State) : State :=
  changedBy n .counters
    { s with
      counters := zeroCounters,
      hammers := s.hammers.map fun x => { x with window := x.window.map fun w => { w with counted := false } } }

/-- R96: the copy. -/
def copyCounters (n : Station) (clear : Bool) (s : State) : State :=
  { s with snapshot := some ⟨s.counters, n, s.tb.loc, clear⟩ }

/-- R96. -/
def takeCountersSnapshot (h : Head) (clear : Bool) (s : State) : Answer :=
  if clear && !(s.rightsOf h).ring then refused .notPermitted s
  else
    let s' := copyCounters h.station clear s
    doneWith false (fun s => .snapshotTime s.tb.loc) (quiet (if clear then clearCounters h.station s' else s'))

/-- R96: a part of the snapshot. -/
def Snapshot.part (x : Snapshot) (p : Nat) : Option SnapshotPart :=
  if p = 0 then
    some (.engine x.station x.time x.cleared x.counters.hourDropped x.counters.tollsSilenced x.counters.tollsAbandoned
      x.counters.tollsDropped)
  else
    match ident1 12 p, ident1 6 (p - 12) with
    | some b, _ => some (.bell x.counters.bells[b])
    | none, some d => some (.drive x.counters.drives[d])
    | none, none => none

/-- R96. -/
def takeCountersRead (p : Nat) (s : State) : Answer :=
  if 18 < p then refusedValue p s
  else
    match s.snapshot with
    | none => refused .noSuch s
    | some x =>
      match x.part p with
      | some c => readout (.snapshotPart c) s
      | none => refusedValue p s

/-! ### Reading the engine (R97) -/

/-- R97. -/
def takeHammerRead (bell : Nat) (s : State) : Answer :=
  withId bell (ident1 12 bell) s fun b =>
    let mine := s.strikes.filter fun x => x.bell == b
    readout
      (.hammerRead s.hammers[b] (s.timer - s.hammers[b].lastPulse) (s.busy b) s.marks[b] mine.length
        (mine.head?.map Strike.due)) s

/-- R97; an ended toll is shown as the current one until its mark is cleared (log 17). DESIGN CHOICE (log 61): the
deadline remaining is 0 once the deadline has passed. -/
def takeEngineRead (s : State) : Answer :=
  readout
    (.engineRead s.strikes.length s.coils s.hour (s.hour.deadline - s.timer) s.toll
      (s.tollQueue.map fun t => (t, s.timer - t.postTime)) s.plan) s

end Sys2Proof.Machine
end

