-- ==== Sys2Proof/Machine/LinkRequests.lean ====
section
/-! DEFINITION. The requests of the Station Links (R186, R193, R196, R198). -/

namespace Sys2Proof.Machine

/-! ### Permissions and links (R186, R193) -/

/-- R186, R193: some station has INSTALL on an enabled link. -/
def someInstall (rights : Vector Rights 3) (enabled : Station → Bool) : Bool :=
  allStations.any fun n => rights[n].install && enabled n

/-- R193. -/
def takePermitWrite (h : Head) (station : Nat) (r : Rights) (s : State) : Answer :=
  withKey h s <| withId station (ident1 3 station) s fun n =>
    let rights := put s.rights n r
    if someInstall rights s.storedEnabled then
      done false (quiet (changedBy h.station (.permission n) { s with rights := rights }))
    else refusedValue station s

/-- R193. -/
def takePermitRead (s : State) : Answer := readout (.rights s.rights.toList) s

/-- R186: the enabled fields with one link's replaced. -/
def enabledWith (n : Station) (v : Bool) (s : State) (k : Station) : Bool := if k = n then v else s.storedEnabled k

/-- R186: the retained enabled field of a link. -/
def storeLink (n : Station) (v : Bool) (s : State) : State := { s with linkSettings := put s.linkSettings n v }

/-- R186: the write is stored at once, and takes effect once the reply has been sent. -/
def takeInstallWriteLink (h : Head) (link : Nat) (enabled : Bool) (s : State) : Answer :=
  withKey h s <| withId link (ident1 3 link) s fun n =>
    if someInstall s.rights (enabledWith n enabled s) then
      { done false (quiet (changedBy h.station (.linkSettings n) (storeLink n enabled s))) with after := .setLink n enabled }
    else refusedValue link s

/-- R186: disabling a link. DESIGN CHOICE (log 47): what a reply emptied here was still to bring about is lost with it. -/
def Link.disable (l : Link) : Link :=
  { l with enabled := false, rx := .hunt, waiting := none, reply := .empty, notices := [] }

/-- R186: enabling a link. DESIGN CHOICE (log 64): a link that is enabled already keeps its receiver and the frame that
it assembles. -/
def Link.enable (l : Link) : Link := if l.enabled then l else { l with enabled := true, rx := .hunt }

/-- R186: what an accepted write does to its link. -/
def setLink (n : Station) (enabled : Bool) (s : State) : State :=
  if enabled then s.onLink n Link.enable
  else { s.onLink n Link.disable with watches := put s.watches n (Vector.replicate 4 none) }

/-! ### Watches (R196) -/

/-- R196: put a watch into a station's slot, or empty it. -/
def setWatch (n : Station) (i : Fin 4) (w : Option Watch) (s : State) : State :=
  { s with watches := put s.watches n (put s.watches[n] i w) }

/-- R196: the number of a target or mode that is refused BAD VALUE. -/
def badWatchValue : TargetBody → ModeBody → Nat
  | .other kind, _ => kind
  | t, .other mode =>
      if (readTarget t).isSome then mode
      else
        match t with
        | .entry i | .bell i | .circuit i | .dial i | .other i => i
  | .entry i, _ | .bell i, _ | .circuit i, _ | .dial i, _ => i

/-- R196. -/
def takeWatchSet (h : Head) (slot : Nat) (target : TargetBody) (mode : ModeBody) (s : State) : Answer :=
  withId slot (ident0 4 slot) s fun i =>
    match readTarget target, readMode mode with
    | some t, some m => done false (quiet (setWatch h.station i (some ⟨t, m⟩) s))
    | _, _ => refusedValue (badWatchValue target mode) s

/-- R196. -/
def takeWatchClear (h : Head) (slot : Nat) (s : State) : Answer :=
  withId slot (ident0 4 slot) s fun i => done false (quiet (setWatch h.station i none s))

/-- R196. -/
def takeWatchRead (h : Head) (s : State) : Answer := readout (.watches s.watches[h.station].toList) s

/-! ### The status readout (R198) -/

/-- R198: a dial's state as last reported, with its sync warning. DESIGN CHOICE (log 71): R29 reports present dials only; one
not present is shown ABSENT, as DIAL READ shows it (R41), and not by its last report. -/
def dialStatus (d : Dial) : Option DialState × Bool := (if d.present then d.reported else some .absent, d.syncWarn)

/-- R198. -/
def takeStatusRead (h : Head) (s : State) : Answer :=
  let l := s.links[h.station]
  readout
    (.status s.tb.validity s.tb.summer s.tb.lastStart h.key s.gate.limit (s.dials.toList.map dialStatus)
      (s.hammers.toList.map fun x => (x.ok, x.cause)) (s.drives.toList.map Drive.state)
      (s.circuits.toList.map Circuit.state) (s.leases.toList.map fun l => (l.barred, l.lapses)) s.player.play.isSome
      s.player.queue.length l.counts l.notices.length) s

end Sys2Proof.Machine
end

