-- ==== Sys2Proof/Machine/ScheduleRequests.lean ====
section
/-! DEFINITION. The Schedule's requests (R149 to R151, R160, R162). -/

namespace Sys2Proof.Machine

/-- R149 step 3: a DEFINED index is owned by another. -/
def ownedByOther (h : Head) (e : Entry) (s : State) : Bool :=
  e.owner != .station h.station && !(s.rightsOf h).install

/-- R149 steps 1 to 3, shared by SCHEDULE WRITE and SCHEDULE DELETE. -/
def onOwnEntry (h : Head) (index : Nat) (s : State) (f : EntryNo → Answer) : Answer :=
  if !(s.rightsOf h).program then refused .notPermitted s
  else withId index (ident0 96 index) s fun k =>
    if s.entries[k].any fun e => ownedByOther h e s then refused .notOwner s else f k

/-- R149: the owner that a write gives. -/
def ownerOf (h : Head) (s : State) : Owner :=
  if (s.rightsOf h).install && h.key then .install else .station h.station

/-- R149 step 4: the parts of a carried entry, none when one is refused BAD VALUE. -/
def readEntry (owner : Owner) (e : EntryBody) : Option Entry := do
  let trigger ← readTrigger e.trigger
  let action ← readAction e.action
  if windowOk e.window && e.oneShot.all realDate then
    return { enabled := e.enabled, owner := owner, trigger := trigger, days := e.days, window := e.window,
             oneShot := e.oneShot, action := action, lastFired := none }
  else none

/-- R149: reading the entry clamps it. -/
def entryClamped (e : EntryBody) : Bool := triggerClamped e.trigger || actionClamped e.action

/-- R149 step 5: the action names a bell with no drive. -/
def State.lacksDrive (s : State) : Action → Bool
  | .swing bells _ => bells.any fun b => (s.driveOf b).isNone
  | _ => false

/-- R149, R150: a write of an entry reaches the other stations and, after them, their CHANGE watches (log 57). -/
def entryWritten (r : WatchedWrite) (n : Station) (k : EntryNo) (s : State) : State :=
  changeWatch (.entry k) (.written r) (.station n) (changedBy n (.entry k) s)

/-- R149 step 4: the number of an action that is refused BAD VALUE. -/
def badActionValue : ActionBody → Nat
  | .tune slot _ => slot
  | .toll bell _ _ => bell
  | .swing bells _ => (bells.find? fun b => (ident1 12 b).isNone).getD bells.length
  | .other kind => kind

/-- R149, R175: the number of a date window that is refused BAD VALUE. -/
def badWindowValue : Option (MonthDay × MonthDay) → Nat
  | some (a, b) => if realMonthDay a then monthDayKey b else monthDayKey a
  | none => 0

/-- R149 step 4: the number of a carried entry that is refused BAD VALUE (log 28). -/
def badEntryValue (e : EntryBody) : Nat :=
  match e.trigger with
  | .other kind => kind
  | _ =>
    if !windowOk e.window then badWindowValue e.window
    else
      match e.oneShot.filter fun d => !realDate d with
      | some d => dateKey d
      | none => badActionValue e.action

/-- R149. -/
def takeScheduleWrite (h : Head) (index : Nat) (body : EntryBody) (s : State) : Answer :=
  onOwnEntry h index s fun k =>
    match readEntry (ownerOf h s) body with
    | none => refusedValue (badEntryValue body) s
    | some e =>
        if s.lacksDrive e.action then refused .noSuch s
        else
          doneWith (entryClamped body) (fun s => .entryWritten e.owner (s.triggerMinute e.trigger s.tb.loc.date))
            (quiet (entryWritten .scheduleWrite h.station k (s.setEntry k (some e))))

/-- R150. -/
def takeScheduleDelete (h : Head) (index : Nat) (s : State) : Answer :=
  onOwnEntry h index s fun k =>
    match s.entries[k] with
    | none => refused .noSuch s
    | some _ => done false (quiet (entryWritten .scheduleDelete h.station k (s.setEntry k none)))

/-- R151. -/
def takeScheduleRead (index : Nat) (s : State) : Answer :=
  withId index (ident0 96 index) s fun k =>
    let today := s.tb.loc.date
    readout
      (.entryRead (s.entries[k].map fun e => (e, s.triggerMinute e.trigger today, e.applies today, !e.unfired today))) s

/-- R162: the use of an index. -/
def entryUse : Option Entry → IndexUse
  | none => .empty
  | some e => if e.enabled then .enabled else .disabled

/-- R161: a window contains the present moment. -/
def State.inWindow (s : State) (i : Fin 8) : Bool := windowContains s.windows[i] s.tb.loc.date s.tb.loc.minute

/-- R162. -/
def takeScheduleStatus (s : State) : Answer :=
  readout
    (.scheduleStatus s.sched (allEntries.map fun k => entryUse s.entries[k])
      ((allEighths.filter s.inWindow).map fun i => (i, s.windows[i]))) s

/-- R160. -/
def takeQuietWrite (h : Head) (index : Nat) (w : QuietWindow) (s : State) : Answer :=
  if !(s.rightsOf h).program then refused .notPermitted s
  else withId index (ident0 8 index) s fun i =>
    done (clampWindow w != w)
      (quiet (changedBy h.station (.quietWindow i) { s with windows := put s.windows i (clampWindow w) }))

/-- R160. -/
def takeQuietRead (index : Nat) (s : State) : Answer :=
  withId index (ident0 8 index) s fun i => readout (.quietRead s.windows[i] (s.inWindow i)) s

/-- R162. -/
def takeInstallWriteSchedule (h : Head) (catchUp : Nat) (s : State) : Answer :=
  withKey h s <|
    done (outside 0 60 catchUp)
      (quiet (changedBy h.station .scheduleSettings (s.onSched fun c => { c with catchUp := clamp 0 60 catchUp })))

end Sys2Proof.Machine
end

