-- ==== Sys2Proof/Machine/SwingRequests.lean ====
section
/-! DEFINITION. The Swing Controller's requests (R124, R126, R128, R139, R142 to R144). -/

namespace Sys2Proof.Machine

/-- The checks that SWING START, SWING STOP and JOG share: the bell in range, present, and with a drive. -/
def onSwingBell (bell : Nat) (s : State) (f : BellNo → DriveNo → Answer) : Answer :=
  withId bell (ident1 12 bell) s fun b =>
    match s.driveOf b with
    | none => refused .noSuch s
    | some d => if s.bells[b].present then f b d else refused .noSuch s

/-! ### SWING START (R126, R128) -/

/-- R126: the duration clamped. -/
def clampDuration (duration : Option Nat) : Option Nat := duration.map (clamp 1 60)

/-- R126: the duration lies outside 1 … 60. -/
def durationClamped (duration : Option Nat) : Bool := duration.any (outside 1 60)

/-- R128: a station's extension. -/
def extendByStation (d : DriveNo) (duration : Option Nat) (s : State) : Answer :=
  if s.drives[d].state.returning then refused .busy s
  else
    doneWith (durationClamped duration) (fun s => .swingExtended s.drives[d].stopTime)
      (quiet (extendSwing d (s.askedStop (clampDuration duration)) s))

/-- R126: the reply by the outcome at the Bell Frame. -/
def swingReply (clamped : Bool) : ClaimOutcome → Reply
  | .granted => .queued clamped
  | .pending _ => .queued clamped
  | .alreadyHeld => .done clamped .none
  | .busy => refuse .busy
  | .owned n => .refused .owned (.station n)
  | .noSuch => refuse .noSuch
  | .barred => refuse .barred

/-- R126: SC makes a SWING claim for a station. -/
def startByClaim (h : Head) (b : BellNo) (d : DriveNo) (behalf : Option Station) (duration : Option Nat) (s : State) :
    Answer :=
  let c := claimSwing d b (.station h.station) behalf (some h.tag) (.station h.station h.tag)
    (s.askedStop (clampDuration duration)) s
  ⟨c.run, fun _ => swingReply (durationClamped duration) c.outcome, .nothing⟩

/-- R126. -/
def takeSwingStart (h : Head) (bell : Nat) (duration : Option Nat) (s : State) : Answer :=
  onSwingBell bell s fun b d =>
    let x := s.bells[b]
    let waiting := s.drives[d].claimWaiting.isSome
    if x.holder = .station h.station then
      (if waiting then extendByStation d duration s else startByClaim h b d (some h.station) duration s)
    else if x.holder = .swing ∧ x.behalf = some h.station then extendByStation d duration s
    else if !(s.rightsOf h).ring then refused .notPermitted s
    else if x.holder = .swing ∨ waiting = true then extendByStation d duration s
    else startByClaim h b d none duration s

/-! ### SWING STOP (R139) -/

/-- R139 step 4: the behalf of the swing, or the source of a claim still waiting. -/
def ownsSwing (n : Station) (b : BellNo) (d : DriveNo) (s : State) : Bool :=
  (s.bells[b].holder == .swing && s.bells[b].behalf == some n) ||
    (s.drives[d].claimWaiting.isSome &&
      (match s.drives[d].source with
       | .station m _ => m == n
       | _ => false))

/-- R139 step 6: the swing's behalf is a station. -/
def onBehalf (b : BellNo) (s : State) : Bool := s.bells[b].holder == .swing && s.bells[b].behalf.isSome

/-- R139: an accepted stop. -/
def stopByStation (d : DriveNo) (s : State) : Answer :=
  doneWith false (fun s => .swingState s.drives[d].state) (stopDrive d .stopped s)

/-- R139. -/
def takeSwingStop (h : Head) (bell : Nat) (s : State) : Answer :=
  onSwingBell bell s fun b d =>
    let x := s.drives[d]
    if x.state == .down && x.claimWaiting.isNone && !x.grantWaiting then refused .noSuch s
    else if ownsSwing h.station b d s then stopByStation d s
    else if !(s.rightsOf h).ring then refused .notPermitted s
    else if onBehalf b s && !(s.rightsOf h).install then refused .notOwner s
    else stopByStation d s

/-! ### JOG (R142, R143) -/

/-- R142: the result fields: the jog's start and end. -/
def jogResult (d : DriveNo) (s : State) : Payload :=
  match s.drives[d].jog with
  | some j => .jog j.start j.stop
  | none => .none

/-- R143: an interlock. -/
def interlock (d : DriveNo) (s : State) : State :=
  (s.onDrive d fun x => { x.openAll s.timer with jog := none }).onDriveCount d
    fun c => { c with interlocks := bump16 c.interlocks }

/-- R142, R143: a jog on a bell that its station holds, with the drive DOWN. -/
def jogDrive (n : Station) (d : DriveNo) (dir : Direction) (duration : Nat) (s : State) : Answer :=
  let ms := clamp 50 2000 duration
  match s.drives[d].jog with
  | none =>
      doneWith (outside 50 2000 duration) (jogResult d) (quiet (s.onDrive d (Drive.newJog s.timer dir ms n)))
  | some j =>
      if j.dir = dir then
        doneWith (outside 50 2000 duration) (jogResult d) (quiet (s.onDrive d (Drive.extendJog s.timer ms)))
      else ⟨quiet (interlock d s), fun _ => refuse .interlock, .nothing⟩

/-- R145: the SWING grant has taken the bell from the station on whose behalf it swings, and the drive is in LIFT. -/
def State.liftsFor (s : State) (n : Station) (b : BellNo) (d : DriveNo) : Bool :=
  s.bells[b].holder == .swing && s.bells[b].behalf == some n && s.drives[d].state == .lift

/-- R142's tests in its order, but that a jog which meets the SWING grant of its own station finds LIFT, and is BUSY
(R145, log 43). -/
def takeJog (h : Head) (bell : Nat) (dir : Direction) (duration : Nat) (s : State) : Answer :=
  onSwingBell bell s fun b d =>
    if !(s.rightsOf h).install then refused .notPermitted s
    else if s.liftsFor h.station b d then refused .busy s
    else if s.bells[b].holder ≠ .station h.station then refused .notOwner s
    else if s.drives[d].state ≠ .down then refused .busy s
    else jogDrive h.station d dir duration s

/-! ### Reading and installing a drive (R124, R144) -/

/-- R144. DESIGN CHOICE (log 61): a deadline that has passed has 0 left, and a stop time that has passed has a negative
time left, the tower ms since it. -/
def takeSwingRead (drive : Nat) (s : State) : Answer :=
  withId drive (ident1 6 drive) s fun d =>
    let x := s.drives[d]
    readout
      (.swingRead x x.bell.isNone (x.bell.map fun b => (s.bells[b].holder, s.bells[b].behalf))
        (x.deadline.map (· - s.timer)) (x.sensorDeadline.map (· - s.timer)) (x.stopTime.map (· - s.now))
        s.pins.hammerPos[d] (x.bell.map fun b => s.hammers[b].ok) s.counters.drives[d]) s

/-- R124: the assigned bell that a write carries. -/
def readAssigned (v : Option Nat) : Option (Option BellNo) :=
  match v with
  | none => some none
  | some n => (ident1 12 n).map some

/-- R124 step 2: the bell is assigned to another drive. -/
def State.assignedElsewhere (s : State) (d : DriveNo) (bell : Option BellNo) : Bool :=
  bell.any fun b => allDrives.any fun x => x != d && s.drives[x].bell == some b

/-- R124 step 3: the drive's bell may not be changed. -/
def Drive.engagedNow (x : Drive) : Bool :=
  x.state != .down || x.claimWaiting.isSome || x.grantWaiting || x.jog.isSome

/-- R124: the five numbers clamped. -/
def clampDrive (r : DriveInstall) : DriveInstall :=
  { r with
    deadTime := clamp 100 1000 r.deadTime, kickTime := clamp 5 60 r.kickTime, target := clamp 30 160 r.target,
    rest := clamp 5 20 r.rest, settle := clamp 10 300 r.settle }

/-- R124: the install and setting fields replaced. -/
def Drive.install (r : DriveInstall) (bell : Option BellNo) (x : Drive) : Drive :=
  { x with
    bell := bell, deadTime := r.deadTime, kickTime := r.kickTime, target := r.target, rest := r.rest,
    settle := r.settle, brake := r.brake }

/-- R124, R142: an accepted write ends a jog in flight and replaces the fields. -/
def installDrive (n : Station) (d : DriveNo) (r : DriveInstall) (bell : Option BellNo) (s : State) : State :=
  changedBy n (.driveInstall d) (s.onDrive d fun x => (x.endJog s.timer).install r bell)

/-- R124. -/
def takeInstallWriteDrive (h : Head) (drive : Nat) (r : DriveInstall) (s : State) : Answer :=
  withKey h s <| withId drive (ident1 6 drive) s fun d =>
    match readAssigned r.bell with
    | none => refusedValue (r.bell.getD 0) s
    | some bell =>
        if s.assignedElsewhere d bell then refusedValue (r.bell.getD 0) s
        else if bell ≠ s.drives[d].bell ∧ s.drives[d].engagedNow = true then refused .busy s
        else done (clampDrive r != r) (quiet (installDrive h.station d (clampDrive r) bell s))

end Sys2Proof.Machine
end

