-- ==== Sys2Proof/Machine/TimeRequests.lean ====
section
/-! DEFINITION. The Time Base's requests (R4, R5, R7, R22, R23). -/

namespace Sys2Proof.Machine

/-- R4: the first number of a date that is out of range. -/
def badDateValue (d : Date) : Nat :=
  if d.year < 2000 || 2099 < d.year then d.year
  else if d.month < 1 || 12 < d.month then d.month
  else d.day

/-- R4. -/
def takeTimeSet (h : Head) (date : Date) (secs : Nat) (s : State) : Answer :=
  if !(s.rightsOf h).time then refused .notPermitted s
  else if !realDate date then refusedValue (badDateValue date) s
  else if 86400 ≤ secs then refusedValue secs s
  else doneWith false (fun s => .time s.tb.info) (quiet (setTime h.station date secs s))

/-- R5: the since-set count in whole minutes, 0 in UNSET. -/
def TimeBase.sinceMinutes (tb : TimeBase) : Nat := if tb.validity = .unset then 0 else tb.sinceSet / 60000

/-- R5. -/
def takeTimeRead (s : State) : Answer :=
  readout (.timeRead s.tb.info (weekday s.tb.loc.date) s.tb.offset s.tb.sinceMinutes s.tb.lastStart s.tb.lastCheckGood) s

/-- R7: what of a carried rule is refused BAD VALUE: the first number out of range in the record's order. -/
def badRuleValue (r : DstRule) : Nat :=
  let occ : Occurrence → Nat
    | .nth n => n
    | .last => 5
  if r.startMonth < 1 || 12 < r.startMonth then r.startMonth
  else if !occurrenceOk r.startOcc then occ r.startOcc
  else if 6 < r.startDay then r.startDay
  else if r.endMonth < 1 || 12 < r.endMonth then r.endMonth
  else if !occurrenceOk r.endOcc then occ r.endOcc
  else r.endDay

/-- R7. -/
def takeDstRuleWrite (h : Head) (rule : DstRule) (s : State) : Answer :=
  if !(s.rightsOf h).time then refused .notPermitted s
  else if !ruleIdentitiesOk rule then refusedValue (badRuleValue rule) s
  else done (clampRule rule != rule) (quiet (writeRule (clampRule rule) (changedBy h.station .dstRule s)))

/-- R7; the instants are those of the record also while the rule is not enabled (log 58). -/
def takeDstRuleRead (s : State) : Answer :=
  readout (.dstRule s.tb.rule (ruleStart s.tb.rule s.tb.date.year) (ruleStop s.tb.rule s.tb.date.year)) s

/-- R22: the restart follows the sending of the reply. -/
def takeRestart (h : Head) (s : State) : Answer := withKey h s { done false (quiet s) with after := .restart }

/-- R23: the clear follows the sending of the reply. -/
def takeFactoryClear (h : Head) (s : State) : Answer :=
  withKey h s { done false (quiet s) with after := .factoryClear }

end Sys2Proof.Machine
end

