-- ==== Sys2Proof/Machine/TuneRequests.lean ====
section
/-! DEFINITION. The Tune Player's requests (R104 to R108, R110, R114, R118, R120). -/

namespace Sys2Proof.Machine

/-! ### Loading (R104 to R107) -/

/-- R104: the slot is being played. -/
def State.playing (s : State) (i : SlotNo) : Bool := s.player.play.any fun p => p.slot == i

/-- R104: the slot is LOADING for another station. -/
def Slot.loadedByOther (x : Slot) (n : Station) : Bool := x.state == .loading && x.loader != some n

/-- R104: a slot as TUNE BEGIN leaves it. -/
def beganSlot (n : Station) (name : List Nat) (tempo total timer : Nat) : Slot :=
  { state := .loading, name := name, tempo := tempo, count := total, steps := List.replicate total none,
    loader := some n, loadEnd := timer + Config.loadingMs }

/-- R104: an accepted TUNE BEGIN; the COMPLETE of an abandoned request goes before the CHANGED (log 57). -/
def beginLoad (n : Station) (i : SlotNo) (name : List Nat) (tempo total : Nat) (s : State) : Run :=
  (abandonSlot i s).thenDo fun s =>
    changedBy n (.tuneSlot i) (s.onSlot i fun _ => beganSlot n name tempo total s.timer)

/-- R104: the value of a TUNE BEGIN that is refused BAD VALUE after the slot. -/
def badTuneValue (name : List Nat) (total : Nat) : Nat :=
  if total < 1 || 256 < total then total else (name.find? fun c => c < 32 || 126 < c).getD name.length

/-- R104. -/
def takeTuneBegin (h : Head) (slot : Nat) (name : List Nat) (tempo total : Nat) (s : State) : Answer :=
  if !(s.rightsOf h).program then refused .notPermitted s
  else withId slot (ident0 16 slot) s fun i =>
    if total < 1 || 256 < total || !nameOk name then refusedValue (badTuneValue name total) s
    else if s.playing i then refused .busy s
    else if s.slots[i].loadedByOther h.station then refused .busy s
    else if s.poolFree + s.slots[i].reserved < total then refused .full s
    else
      doneWith (outside 30 240 tempo) (fun s => .tuneBegin total s.poolFree)
        (beginLoad h.station i name (clamp 30 240 tempo) total s)

/-- R105, R106: the checks that TUNE STEPS and TUNE END share. -/
def onOwnLoad (h : Head) (slot : Nat) (s : State) (f : SlotNo → Answer) : Answer :=
  if !(s.rightsOf h).program then refused .notPermitted s
  else withId slot (ident0 16 slot) s fun i =>
    if s.slots[i].state != .loading then refused .noSuch s
    else if s.slots[i].loadedByOther h.station then refused .notOwner s
    else f i

/-- R105: write steps from an offset. -/
def writeSteps (offset : Nat) (new : List TuneStep) (old : List (Option TuneStep)) : List (Option TuneStep) :=
  old.take offset ++ new.map some ++ old.drop (offset + new.length)

/-- R105: the steps still unwritten. -/
def Slot.unwritten (x : Slot) : Nat := (x.steps.filter Option.isNone).length

/-- R105: the slot after an accepted TUNE STEPS. -/
def Slot.write (offset : Nat) (new : List TuneStep) (timer : Nat) (x : Slot) : Slot :=
  { x with steps := writeSteps offset new x.steps, loadEnd := timer + Config.loadingMs }

/-- R105: the number of a step list that is refused BAD VALUE: a bell out of range, and for a step with too many
bells or a bell named twice the count of its bells (log 28). -/
def badStepValue (steps : List StepBody) : Nat :=
  match steps.find? fun x => (readStep x).isNone with
  | some x => (x.bells.find? fun b => (ident1 12 b).isNone).getD x.bells.length
  | none => 0

/-- R105. -/
def takeTuneSteps (h : Head) (slot offset : Nat) (steps : List StepBody) (s : State) : Answer :=
  onOwnLoad h slot s fun i =>
    if s.slots[i].count < offset + steps.length then refusedValue offset s
    else
      match steps.mapM readStep with
      | none => refusedValue (badStepValue steps) s
      | some new =>
          doneWith (steps.any fun x => outside 1 32 x.length) (fun s => .unwritten s.slots[i].unwritten)
            (quiet (s.onSlot i (Slot.write offset new s.timer)))

/-- R106: the slot becomes READY. -/
def Slot.finish (x : Slot) : Slot := { x with state := .ready, loader := none }

/-- R106. -/
def takeTuneEnd (h : Head) (slot : Nat) (s : State) : Answer :=
  onOwnLoad h slot s fun i =>
    match s.slots[i].steps.findIdx? Option.isNone with
    | some k => unchanged (.refused .incomplete (.step k)) s
    | none =>
        doneWith false (fun s => .tuneEnd s.slots[i].bellSet s.slots[i].repeatTime)
          (quiet (changedBy h.station (.tuneSlot i) (s.onSlot i Slot.finish)))

/-- R107. -/
def takeTuneAbort (h : Head) (slot : Nat) (s : State) : Answer :=
  if !(s.rightsOf h).program then refused .notPermitted s
  else withId slot (ident0 16 slot) s fun i =>
    if s.slots[i].state != .loading then refused .noSuch s
    else if s.slots[i].loadedByOther h.station && !(s.rightsOf h).install then refused .notOwner s
    else
      doneWith false (fun s => .free s.poolFree) (quiet (changedBy h.station (.tuneSlot i) (emptySlotAt i s)))

/-- R108: what a READY slot shows beside its record. -/
def Slot.readyView (x : Slot) : Option (List BellNo × Nat) :=
  if x.state = .ready then some (x.bellSet, x.repeatTime) else none

/-- R108: what a LOADING slot shows beside its record. -/
def Slot.loadingView (x : Slot) (timer : Nat) : Option (Nat × Nat) :=
  if x.state = .loading then some (x.unwritten, x.loadEnd - timer) else none

/-- R108. -/
def takeTuneRead (slot offset : Nat) (s : State) : Answer :=
  withId slot (ident0 16 slot) s fun i =>
    let x := s.slots[i]
    if x.state = .empty then readout .tuneEmpty s
    else if x.count ≤ offset then refusedValue offset s
    else
      readout
        (.tuneRead x.state x.name x.tempo x.count x.reserved x.loader x.readyView (x.loadingView s.timer)
          ((x.steps.drop offset).take 16)) s

/-! ### Playing (R110, R118, R120) -/

/-- R110. -/
def takePlay (h : Head) (slot repeats : Nat) (s : State) : Answer :=
  if !(s.rightsOf h).ring then refused .notPermitted s
  else withId slot (ident0 16 slot) s fun i =>
    if !s.slotReady i then refused .noSuch s
    else if s.player.full then refused .full s
    else
      queued (outside 1 4 repeats) (enqueueTune i (.station h.station h.tag) (clamp 1 4 repeats) false s)

/-- R118: who may stop a play. -/
def playStoppable (h : Head) (p : Play) (s : State) : Bool :=
  match p.source with
  | .station m _ => m == h.station || (s.rightsOf h).install
  | _ => true

/-- R118: the play's station source is the requester, whose DONE stands for its COMPLETE. -/
def TuneSource.isStation (n : Station) : TuneSource → Bool
  | .station m _ => m == n
  | _ => false

/-- R118: the counts of a play with its waiting strikes removed. -/
def stopCounts (p : Play) (s : State) : BlowCounts := (removePlayStrikes p s).playCounts

/-- R118. -/
def takeTuneStop (h : Head) (s : State) : Answer :=
  if !(s.rightsOf h).ring then refused .notPermitted s
  else
    match s.player.play with
    | none => refused .noSuch s
    | some p =>
        if playStoppable h p s then
          doneWith false (fun _ => .tuneStop p.number (stopCounts p s))
            (endPlay p .stopped (!p.source.isStation h.station) s)
        else refused .notOwner s

/-- R120. -/
def takePlayerRead (s : State) : Answer :=
  let p := s.player
  readout
    (.playerRead (p.play.map fun x => (x, s.playEnd x - s.timer)) (p.queue.map fun r => (r, s.timer - r.postTime))
      p.failing s.poolUsed s.poolFree p.waitLimit p.counts p.q15 p.q30 p.q45 p.q00) s

/-- R114. -/
def takeInstallWritePlayer (h : Head) (waitLimit : Nat) (s : State) : Answer :=
  withKey h s <|
    done (outside 10 600 waitLimit)
      (quiet (changedBy h.station .playerSettings (s.onPlayer fun p => { p with waitLimit := clamp 10 600 waitLimit })))

end Sys2Proof.Machine
end

