-- ==== Sys2Proof/Machine/Handle.lean ====
section
/-! DEFINITION. Each request to its owner block (R190). -/

namespace Sys2Proof.Machine

/-- R190: SL passes a request to its owner. DEDUCED (log 28): an INSTALL WRITE of an unknown class is refused BAD VALUE
with the class as the failing identity (one of UNKNOWN_REQUEST, whose class is unstated, with its KIND). -/
def handle (h : Head) (r : Request) (s : State) : Answer :=
  match r with
  | .timeSet date secs => takeTimeSet h date secs s
  | .timeRead => takeTimeRead s
  | .dstRuleWrite rule => takeDstRuleWrite h rule s
  | .dstRuleRead => takeDstRuleRead s
  | .restart => takeRestart h s
  | .factoryClear => takeFactoryClear h s
  | .dialSet dial position known polarity => takeDialSet h dial position known polarity s
  | .dialStop dial => takeDialStop h dial s
  | .dialRun dial => takeDialRun h dial s
  | .dialRead dial => takeDialRead dial s
  | .bellClaim bell => takeBellClaim h bell s
  | .release bell => takeRelease h bell s
  | .keepalive => takeKeepalive h s
  | .bellRead bell => takeBellRead bell s
  | .frameRead => takeFrameRead s
  | .stationUnbar station => takeStationUnbar h station s
  | .hammerClear bell => takeHammerClear h bell s
  | .hammerTest bell => takeHammerTest h bell s
  | .handStrike bell delay => takeHandStrike h bell delay s
  | .toll bell count interval => takeToll h bell count interval s
  | .tollStop => takeTollStop h s
  | .strikePlanWrite plan => takeStrikePlanWrite h plan s
  | .strikePlanRead => takeStrikePlanRead s
  | .countersSnapshot clear => takeCountersSnapshot h clear s
  | .countersRead part => takeCountersRead part s
  | .hammerRead bell => takeHammerRead bell s
  | .engineRead => takeEngineRead s
  | .tuneBegin slot name tempo total => takeTuneBegin h slot name tempo total s
  | .tuneSteps slot offset steps => takeTuneSteps h slot offset steps s
  | .tuneEnd slot => takeTuneEnd h slot s
  | .tuneAbort slot => takeTuneAbort h slot s
  | .tuneRead slot offset => takeTuneRead slot offset s
  | .play slot repeats => takePlay h slot repeats s
  | .tuneStop => takeTuneStop h s
  | .playerRead => takePlayerRead s
  | .swingStart bell duration => takeSwingStart h bell duration s
  | .swingStop bell => takeSwingStop h bell s
  | .jog bell dir duration => takeJog h bell dir duration s
  | .swingRead drive => takeSwingRead drive s
  | .scheduleWrite index entry => takeScheduleWrite h index entry s
  | .scheduleDelete index => takeScheduleDelete h index s
  | .scheduleRead index => takeScheduleRead index s
  | .scheduleStatus => takeScheduleStatus s
  | .quietWrite index window => takeQuietWrite h index window s
  | .quietRead index => takeQuietRead index s
  | .floodForce circuit level expiry => takeFloodForce h circuit level expiry s
  | .floodClear circuit => takeFloodClear h circuit s
  | .floodRead circuit => takeFloodRead circuit s
  | .floodStatus => takeFloodStatus s
  | .floodPlanWrite index entry => takeFloodPlanWrite h index entry s
  | .floodPlanRead index => takeFloodPlanRead index s
  | .duskTableWrite first entries => takeDuskTableWrite h first entries s
  | .duskTableRead => takeDuskTableRead s
  | .gateRead => takeGateRead s
  | .installWriteDial dial rec => takeInstallWriteDial h dial rec s
  | .installWriteBell bell present => takeInstallWriteBell h bell present s
  | .installWriteFrame keepMax barLimit => takeInstallWriteFrame h keepMax barLimit s
  | .installWriteHammer bell rec => takeInstallWriteHammer h bell rec s
  | .installWritePlayer waitLimit => takeInstallWritePlayer h waitLimit s
  | .installWriteDrive drive rec => takeInstallWriteDrive h drive rec s
  | .installWriteSchedule catchUp => takeInstallWriteSchedule h catchUp s
  | .installWriteCircuit circuit rec => takeInstallWriteCircuit h circuit rec s
  | .installWriteGate stagger => takeInstallWriteGate h stagger s
  | .installWriteLink link enabled => takeInstallWriteLink h link enabled s
  | .installWriteOther cls => withKey h s (refusedValue cls s)
  | .permitWrite station rights => takePermitWrite h station rights s
  | .permitRead => takePermitRead s
  | .watchSet slot target mode => takeWatchSet h slot target mode s
  | .watchClear slot => takeWatchClear h slot s
  | .watchRead => takeWatchRead h s
  | .statusRead => takeStatusRead h s

end Sys2Proof.Machine
end

