-- ==== Sys2Proof/Machine/Links.lean ====
section
/-! DEFINITION. The links (09): taking a request and placing its reply, the receiver, the transmitter. -/

namespace Sys2Proof.Machine

/-! ### Taking a request (R189, R190) -/

/-- R193: the INSTALL KEY input is sampled. -/
def sampleKey (key : Bool) (s : State) : State := s.onPins fun p => { p with installKey := key }

/-- R190, R192: the reply is placed; it begins at once on an idle transmitter. -/
def Link.place (r : ReplyFrame) (l : Link) : Link :=
  match l.tx with
  | none => { l with tx := some (.reply r), reply := .empty }
  | some _ => { l with reply := .held r }

/-- R190: what the owner makes of a frame: an unknown KIND or a body that does not fit it is refused BAD VALUE. -/
def ask (h : Head) (kind : Byte) (r : Option Request) (s : State) : Answer :=
  match r with
  | some r => if requestCode r = kind then handle h r s else refusedValue kind.toNat s
  | none => refusedValue kind.toNat s

/-- R190: finish a request: run what it raised, and place its reply before the notices it caused. -/
def reply (h : Head) (a : Answer) : State :=
  let s := settle a.run
  s.onLink h.station (Link.place ⟨h.tag, a.reply s, a.after⟩)

/-- R189, R190: a frame is taken as a request. While it is handled its reply is owed, so that no notice begins on the link
before it. -/
def takeFrame (h : Head) (kind : Byte) (r : Option Request) (s : State) : State :=
  reply h (ask h kind r (s.onLink h.station fun l => { l with reply := .owed }))

/-! ### Receiving (R188, R189) -/

/-- R186: the count of a discard's cause. -/
def LinkCounts.bump (c : LinkCounts) : Discard → LinkCounts
  | .check => { c with check := bump16 c.check }
  | .length => { c with length := bump16 c.length }
  | .gap => { c with gap := bump16 c.gap }
  | .overrun => { c with overrun := bump16 c.overrun }

/-- R188: a discard is counted, and FRAME ERROR is queued on the link alone. -/
def discard (n : Station) (cause : Discard) (s : State) : State :=
  notifyOne n (.frameError cause 1) (s.onLink n fun l => { l with counts := l.counts.bump cause })

/-- R189: a complete good frame is placed: discarded as an overrun, left waiting, or taken. -/
def placeFrame (h : Head) (kind : Byte) (r : Option Request) (s : State) : State :=
  let n := h.station
  let s := s.onLink n fun l => { l with counts := { l.counts with received := bump16 l.counts.received } }
  if s.links[n].waiting.isSome then discard n .overrun s
  else if s.links[n].reply = .empty then takeFrame h kind r s
  else s.onLink n fun l => { l with waiting := some ⟨kind, h.tag, r⟩ }

/-- The part receives on a link: it runs, and the link is enabled (R186, R200). -/
def State.hears (s : State) (n : Station) : Bool := s.running && s.links[n].enabled

/-- A complete good frame arrives on a link, as a request command or at the end of a run of bytes. -/
def arriveFrame (h : Head) (kind : Byte) (r : Option Request) (s : State) : State :=
  let s := sampleKey h.key s
  if s.hears h.station then placeFrame h kind r s else s

/-- A request command: a frame that spells the request arrives (log 11). -/
def arrive (h : Head) (r : Request) (s : State) : State := arriveFrame h (requestCode r) (some r) s

/-- R187: LENGTH, KIND, TAG, every BODY byte and CHECK sum to 0 mod 256. -/
def sumGood (bytes : List Byte) : Bool := bytes.foldl (· + ·) 0 == 0

/-- R188: LENGTH is 0, 1 or more than 60. -/
def badLength (b : Byte) : Bool := b.toNat < 2 || 60 < b.toNat

/-- What a byte does to a receiver; a complete frame shows its KIND, its TAG and the length of its BODY. -/
inductive Received where
  | ignored
  | joined (rx : Receiver)
  | discarded (cause : Discard)
  | complete (kind tag : Byte) (length : Nat)

/-- R188: a byte joins the bytes of a frame after SYNC. -/
def joinByte (bytes : List Byte) (timer : Nat) : Received :=
  match bytes with
  | [len] => if badLength len then .discarded .length else .joined (.assembling bytes timer)
  | len :: kind :: tag :: _ =>
      if bytes.length < len.toNat + 2 then .joined (.assembling bytes timer)
      else if sumGood bytes then .complete kind tag (len.toNat - 2)
      else .discarded .check
  | _ => .joined (.assembling bytes timer)

/-- R188: a byte arrives at a receiver. -/
def Receiver.take (rx : Receiver) (b : RxByte) (timer : Nat) : Received :=
  match rx with
  | .hunt => if b.stopOk && b.value == Config.syncByte then .joined (.assembling [] timer) else .ignored
  | .assembling bytes _ => if b.stopOk then joinByte (bytes ++ [b.value]) timer else .discarded .check

/-- Set a link's receiver. -/
def setReceiver (n : Station) (rx : Receiver) (s : State) : State := s.onLink n fun l => { l with rx := rx }

/-- R188, R190: one byte arrives on a link; the byte that completes a good frame gives the request it spells. -/
def receiveByte (n : Station) (key : Bool) (carried : Option Request) (b : RxByte) (s : State) : State :=
  if s.hears n then
    match s.links[n].rx.take b s.timer with
    | .ignored => s
    | .joined rx => setReceiver n rx s
    | .discarded cause => discard n cause (setReceiver n .hunt s)
    | .complete kind tag length =>
        arriveFrame ⟨n, tag, key⟩ kind (spelled kind length carried) (setReceiver n .hunt s)
  else s

/-- R188: a run of bytes arrives on a link. -/
def receiveBytes (n : Station) (key : Bool) (bytes : List RxByte) (carried : Option Request) (s : State) : State :=
  forAll bytes (receiveByte n key carried) s

/-- R188: 20 ms have passed after the last byte of an assembling frame. -/
def Receiver.gapDue (rx : Receiver) (timer : Nat) : Bool :=
  match rx with
  | .hunt => false
  | .assembling _ last => last + Config.gapMs ≤ timer

/-- R188: the gap runs out. -/
def gapTimeout (n : Station) (s : State) : State :=
  if s.hears n && s.links[n].rx.gapDue s.timer then discard n .gap (setReceiver n .hunt s) else s

/-! ### Sending (R192) -/

/-- R189, R192: the waiting frame is taken when the reply waiting begins to be sent. -/
def takeWaiting (n : Station) (key : Bool) (s : State) : State :=
  match s.links[n].waiting with
  | none => s
  | some f => takeFrame ⟨n, f.tag, key⟩ f.kind f.request (s.onLink n fun l => { l with waiting := none })

/-- R192: an idle transmitter chooses its next frame: the waiting reply, else the head notice. -/
def nextFrame (n : Station) (key : Bool) (s : State) : State :=
  match s.links[n].reply with
  | .held r => takeWaiting n key (s.onLink n fun l => { l with tx := some (.reply r), reply := .empty })
  | _ => s.onLink n Link.pumpNotice

/-- R22, R23, R186: what takes effect once a reply has been sent, and then the next frame. -/
def afterReply (n : Station) (key : Bool) (a : After) (s : State) : State :=
  match a with
  | .nothing => nextFrame n key s
  | .restart => restartPart s
  | .factoryClear => clearPart s
  | .setLink k v => nextFrame n key (setLink k v s)

/-- R192: the transmitter finishes its frame. -/
def transmitEnds (n : Station) (key : Bool) (s : State) : State :=
  match s.links[n].tx with
  | none => s
  | some f =>
    let s := (sampleKey key s).onLink n fun l => { l with tx := none }
    match f with
    | .reply r => afterReply n key r.after s
    | .notice _ => nextFrame n key s

end Sys2Proof.Machine
end

