-- ==== Sys2Proof/Machine/RequestCommands.lean ====
section
/-! DEFINITION. The meaning of each request command: its frame arrives on its station's link, and the owner's rule
answers it when the link takes it (R189, R190). -/

namespace Sys2Proof.Machine

/-- The outcomes of a command. -/
abbrev Outcome := Host.Outcome State Fault Refusal

/-- R4. -/
def execTimeSet (h : Head) (date : Date) (secs : Nat) (s : State) : Outcome :=
  .next (arrive h (.timeSet date secs) s)

/-- R5. -/
def execTimeRead (h : Head) (s : State) : Outcome :=
  .next (arrive h .timeRead s)

/-- R7. -/
def execDstRuleWrite (h : Head) (rule : DstRule) (s : State) : Outcome :=
  .next (arrive h (.dstRuleWrite rule) s)

/-- R7. -/
def execDstRuleRead (h : Head) (s : State) : Outcome :=
  .next (arrive h .dstRuleRead s)

/-- R22. -/
def execRestart (h : Head) (s : State) : Outcome :=
  .next (arrive h .restart s)

/-- R23. -/
def execFactoryClear (h : Head) (s : State) : Outcome :=
  .next (arrive h .factoryClear s)

/-- R38. -/
def execDialSet (h : Head) (dial position : Nat) (known : Bool) (polarity : Option Polarity) (s : State) : Outcome :=
  .next (arrive h (.dialSet dial position known polarity) s)

/-- R39. -/
def execDialStop (h : Head) (dial : Nat) (s : State) : Outcome :=
  .next (arrive h (.dialStop dial) s)

/-- R40. -/
def execDialRun (h : Head) (dial : Nat) (s : State) : Outcome :=
  .next (arrive h (.dialRun dial) s)

/-- R41. -/
def execDialRead (h : Head) (dial : Nat) (s : State) : Outcome :=
  .next (arrive h (.dialRead dial) s)

/-- R52. -/
def execBellClaim (h : Head) (bell : Nat) (s : State) : Outcome :=
  .next (arrive h (.bellClaim bell) s)

/-- R60. -/
def execRelease (h : Head) (bell : Nat) (s : State) : Outcome :=
  .next (arrive h (.release bell) s)

/-- R63. -/
def execKeepalive (h : Head) (s : State) : Outcome :=
  .next (arrive h .keepalive s)

/-- R51. -/
def execBellRead (h : Head) (bell : Nat) (s : State) : Outcome :=
  .next (arrive h (.bellRead bell) s)

/-- R51. -/
def execFrameRead (h : Head) (s : State) : Outcome :=
  .next (arrive h .frameRead s)

/-- R66. -/
def execStationUnbar (h : Head) (station : Nat) (s : State) : Outcome :=
  .next (arrive h (.stationUnbar station) s)

/-- R74. -/
def execHammerClear (h : Head) (bell : Nat) (s : State) : Outcome :=
  .next (arrive h (.hammerClear bell) s)

/-- R94. -/
def execHammerTest (h : Head) (bell : Nat) (s : State) : Outcome :=
  .next (arrive h (.hammerTest bell) s)

/-- R93. -/
def execHandStrike (h : Head) (bell delay : Nat) (s : State) : Outcome :=
  .next (arrive h (.handStrike bell delay) s)

/-- R89. -/
def execToll (h : Head) (bell count interval : Nat) (s : State) : Outcome :=
  .next (arrive h (.toll bell count interval) s)

/-- R92. -/
def execTollStop (h : Head) (s : State) : Outcome :=
  .next (arrive h .tollStop s)

/-- R82. -/
def execStrikePlanWrite (h : Head) (plan : PlanBody) (s : State) : Outcome :=
  .next (arrive h (.strikePlanWrite plan) s)

/-- R82. -/
def execStrikePlanRead (h : Head) (s : State) : Outcome :=
  .next (arrive h .strikePlanRead s)

/-- R96. -/
def execCountersSnapshot (h : Head) (clear : Bool) (s : State) : Outcome :=
  .next (arrive h (.countersSnapshot clear) s)

/-- R96. -/
def execCountersRead (h : Head) (part : Nat) (s : State) : Outcome :=
  .next (arrive h (.countersRead part) s)

/-- R97. -/
def execHammerRead (h : Head) (bell : Nat) (s : State) : Outcome :=
  .next (arrive h (.hammerRead bell) s)

/-- R97. -/
def execEngineRead (h : Head) (s : State) : Outcome :=
  .next (arrive h .engineRead s)

/-- R104. -/
def execTuneBegin (h : Head) (slot : Nat) (name : List Nat) (tempo total : Nat) (s : State) : Outcome :=
  .next (arrive h (.tuneBegin slot name tempo total) s)

/-- R105. -/
def execTuneSteps (h : Head) (slot offset : Nat) (steps : List StepBody) (s : State) : Outcome :=
  .next (arrive h (.tuneSteps slot offset steps) s)

/-- R106. -/
def execTuneEnd (h : Head) (slot : Nat) (s : State) : Outcome :=
  .next (arrive h (.tuneEnd slot) s)

/-- R107. -/
def execTuneAbort (h : Head) (slot : Nat) (s : State) : Outcome :=
  .next (arrive h (.tuneAbort slot) s)

/-- R108. -/
def execTuneRead (h : Head) (slot offset : Nat) (s : State) : Outcome :=
  .next (arrive h (.tuneRead slot offset) s)

/-- R110. -/
def execPlay (h : Head) (slot repeats : Nat) (s : State) : Outcome :=
  .next (arrive h (.play slot repeats) s)

/-- R118. -/
def execTuneStop (h : Head) (s : State) : Outcome :=
  .next (arrive h .tuneStop s)

/-- R120. -/
def execPlayerRead (h : Head) (s : State) : Outcome :=
  .next (arrive h .playerRead s)

/-- R126. -/
def execSwingStart (h : Head) (bell : Nat) (duration : Option Nat) (s : State) : Outcome :=
  .next (arrive h (.swingStart bell duration) s)

/-- R139. -/
def execSwingStop (h : Head) (bell : Nat) (s : State) : Outcome :=
  .next (arrive h (.swingStop bell) s)

/-- R142. -/
def execJog (h : Head) (bell : Nat) (dir : Direction) (duration : Nat) (s : State) : Outcome :=
  .next (arrive h (.jog bell dir duration) s)

/-- R144. -/
def execSwingRead (h : Head) (drive : Nat) (s : State) : Outcome :=
  .next (arrive h (.swingRead drive) s)

/-- R149. -/
def execScheduleWrite (h : Head) (index : Nat) (entry : EntryBody) (s : State) : Outcome :=
  .next (arrive h (.scheduleWrite index entry) s)

/-- R150. -/
def execScheduleDelete (h : Head) (index : Nat) (s : State) : Outcome :=
  .next (arrive h (.scheduleDelete index) s)

/-- R151. -/
def execScheduleRead (h : Head) (index : Nat) (s : State) : Outcome :=
  .next (arrive h (.scheduleRead index) s)

/-- R162. -/
def execScheduleStatus (h : Head) (s : State) : Outcome :=
  .next (arrive h .scheduleStatus s)

/-- R160. -/
def execQuietWrite (h : Head) (index : Nat) (window : QuietWindow) (s : State) : Outcome :=
  .next (arrive h (.quietWrite index window) s)

/-- R160. -/
def execQuietRead (h : Head) (index : Nat) (s : State) : Outcome :=
  .next (arrive h (.quietRead index) s)

/-- R176. -/
def execFloodForce (h : Head) (circuit : Nat) (level : Bool) (expiry : ExpiryBody) (s : State) : Outcome :=
  .next (arrive h (.floodForce circuit level expiry) s)

/-- R177. -/
def execFloodClear (h : Head) (circuit : Nat) (s : State) : Outcome :=
  .next (arrive h (.floodClear circuit) s)

/-- R178. -/
def execFloodRead (h : Head) (circuit : Nat) (s : State) : Outcome :=
  .next (arrive h (.floodRead circuit) s)

/-- R178. -/
def execFloodStatus (h : Head) (s : State) : Outcome :=
  .next (arrive h .floodStatus s)

/-- R175. -/
def execFloodPlanWrite (h : Head) (index : Nat) (entry : FloodPlanBody) (s : State) : Outcome :=
  .next (arrive h (.floodPlanWrite index entry) s)

/-- R175. -/
def execFloodPlanRead (h : Head) (index : Nat) (s : State) : Outcome :=
  .next (arrive h (.floodPlanRead index) s)

/-- R173. -/
def execDuskTableWrite (h : Head) (first : Nat) (entries : List SunPair) (s : State) : Outcome :=
  .next (arrive h (.duskTableWrite first entries) s)

/-- R173. -/
def execDuskTableRead (h : Head) (s : State) : Outcome :=
  .next (arrive h .duskTableRead s)

/-- R181. -/
def execGateRead (h : Head) (s : State) : Outcome :=
  .next (arrive h .gateRead s)

/-- R25. -/
def execInstallWriteDial (h : Head) (dial : Nat) (rec : DialInstall) (s : State) : Outcome :=
  .next (arrive h (.installWriteDial dial rec) s)

/-- R49. -/
def execInstallWriteBell (h : Head) (bell : Nat) (present : Bool) (s : State) : Outcome :=
  .next (arrive h (.installWriteBell bell present) s)

/-- R50. -/
def execInstallWriteFrame (h : Head) (keepMax barLimit : Nat) (s : State) : Outcome :=
  .next (arrive h (.installWriteFrame keepMax barLimit) s)

/-- R73. -/
def execInstallWriteHammer (h : Head) (bell : Nat) (rec : HammerInstall) (s : State) : Outcome :=
  .next (arrive h (.installWriteHammer bell rec) s)

/-- R114. -/
def execInstallWritePlayer (h : Head) (waitLimit : Nat) (s : State) : Outcome :=
  .next (arrive h (.installWritePlayer waitLimit) s)

/-- R124. -/
def execInstallWriteDrive (h : Head) (drive : Nat) (rec : DriveInstall) (s : State) : Outcome :=
  .next (arrive h (.installWriteDrive drive rec) s)

/-- R162. -/
def execInstallWriteSchedule (h : Head) (catchUp : Nat) (s : State) : Outcome :=
  .next (arrive h (.installWriteSchedule catchUp) s)

/-- R166. -/
def execInstallWriteCircuit (h : Head) (circuit : Nat) (rec : CircuitInstall) (s : State) : Outcome :=
  .next (arrive h (.installWriteCircuit circuit rec) s)

/-- R181. -/
def execInstallWriteGate (h : Head) (stagger : Nat) (s : State) : Outcome :=
  .next (arrive h (.installWriteGate stagger) s)

/-- R186. -/
def execInstallWriteLink (h : Head) (link : Nat) (enabled : Bool) (s : State) : Outcome :=
  .next (arrive h (.installWriteLink link enabled) s)

/-- R193. -/
def execPermitWrite (h : Head) (station : Nat) (rights : Rights) (s : State) : Outcome :=
  .next (arrive h (.permitWrite station rights) s)

/-- R193. -/
def execPermitRead (h : Head) (s : State) : Outcome :=
  .next (arrive h .permitRead s)

/-- R196. -/
def execWatchSet (h : Head) (slot : Nat) (target : TargetBody) (mode : ModeBody) (s : State) : Outcome :=
  .next (arrive h (.watchSet slot target mode) s)

/-- R196. -/
def execWatchClear (h : Head) (slot : Nat) (s : State) : Outcome :=
  .next (arrive h (.watchClear slot) s)

/-- R196. -/
def execWatchRead (h : Head) (s : State) : Outcome :=
  .next (arrive h .watchRead s)

/-- R198. -/
def execStatusRead (h : Head) (s : State) : Outcome :=
  .next (arrive h .statusRead s)

/-- R190: what a frame of UNKNOWN_REQUEST carries: an INSTALL WRITE of an unknown class where its KIND is INSTALL
WRITE's (its class unstated, log 11, so that its KIND stands for it as the failing identity, log 28), and no request
otherwise. -/
def unknownCarried (kind : Byte) : Option Request :=
  if kind = 0x60#8 then some (.installWriteOther kind.toNat) else none

/-- R190: a frame whose KIND is no request code, whose body does not fit its kind, or whose install class is unknown. -/
def execUnknownRequest (h : Head) (kind : Byte) (s : State) : Outcome :=
  .next (arriveFrame h kind (unknownCarried kind) s)

end Sys2Proof.Machine
end

