-- ==== Sys2Proof/Machine/EventCommands.lean ====
section
/-! DEFINITION. The meaning of each event command. An event whose condition does not hold, and an event that reaches a
block of a stopped part, change nothing (log 4). -/

namespace Sys2Proof.Machine

/-- R18: what a block does only while the part runs. -/
def whenRunning (f : State → State) (s : State) : State := if s.running then f s else s

/-- What happens only under a condition. -/
def onlyIf (c : Bool) (f : State → State) (s : State) : State := if c then f s else s

/-! ### Links (R188, R192) -/

/-- R188. -/
def execReceiveFrame (link : Station) (key : Bool) (bytes : List RxByte) (carried : Option Request) (s : State) : Outcome :=
  .next (receiveBytes link key bytes carried s)

/-- R188. -/
def execFrameGapTimeout (link : Station) (s : State) : Outcome := .next (gapTimeout link s)

/-- R192. -/
def execTransmitEnd (link : Station) (key : Bool) (s : State) : Outcome := .next (transmitEnds link key s)

/-! ### The time base and the power (R2, R3, R10, R11, R17 to R20) -/

/-- R11. -/
def execMinuteEvent (s : State) : Outcome := .next (onlyIf s.minuteDue minuteEvent s)

/-- R10. -/
def execSummerChange (s : State) : Outcome := .next (onlyIf s.tb.changeDue summerChange s)

/-- R3. -/
def execHoldover (s : State) : Outcome := .next (onlyIf s.tb.holdoverDue holdover s)

/-- R2. -/
def execRangeEnd (s : State) : Outcome := .next (onlyIf s.tb.atRangeEnd rangeEnd s)

/-- R18. -/
def execMainsLoss (s : State) : Outcome :=
  let s := stopIfRunning s
  .next { s with power := { s.power with mains := false } }

/-- R17: what a battery failure leaves between the check held and the one recomputed: a free value other than
agreement, since a BAD check follows (log 7). -/
def lostDiff (timer : Nat) : BitVec 32 := if Config.lostCheck timer = 0#32 then 1#32 else Config.lostCheck timer

/-- R17, R20: mains is present again; a battery failure in the absence has lost the store. -/
def mainsBack (batteryFailed : Bool) (s : State) : State :=
  startIfClear { s with power :=
    { s.power with mains := true, checkDiff := if batteryFailed then lostDiff s.timer else s.power.checkDiff } }

/-- R20. -/
def execMainsReturn (batteryFailed : Bool) (s : State) : Outcome :=
  .next (onlyIf (!s.power.mains) (mainsBack batteryFailed) s)

/-- R19. -/
def execResetAsserted (s : State) : Outcome :=
  let s := stopIfRunning s
  .next { s with power := { s.power with reset := true } }

/-- R20. -/
def execResetReleased (s : State) : Outcome :=
  .next (onlyIf s.power.reset (fun s => startIfClear { s with power := { s.power with reset := false } }) s)

/-! ### Dials (R26, R30 to R32, R34, R36) -/

/-- R26, R42. -/
def execTargetIncrement (dial : DialNo) (s : State) : Outcome := .next (whenRunning (decideDial dial false) s)

/-- R30. -/
def execDialFastIntervalEnd (dial : DialNo) (s : State) : Outcome := .next (whenRunning (decideDial dial false) s)

/-- R31. -/
def execDialImpulseEnd (dial : DialNo) (s : State) : Outcome :=
  match s.dials[dial].pulseEnded s.timer with
  | some i => .next (pulseRun dial i s)
  | none => .next s

/-- R32. -/
def execPairGapEnd (dial : DialNo) (s : State) : Outcome :=
  .next (onlyIf (s.dials[dial].gapEnded s.timer) (fun s => s.onDial dial (Dial.startNeg s.timer)) s)

/-- R31. -/
def execCurrentSenseLoad (dial : DialNo) (s : State) : Outcome :=
  .next (onlyIf s.dials[dial].drivingNow (fun s => s.onDial dial Dial.seeLoad) s)

/-- R34. -/
def execCurrentSenseShort (dial : DialNo) (s : State) : Outcome :=
  .next (onlyIf s.dials[dial].drivingNow (currentFault dial .short) s)

/-- R35, R36. -/
def execSyncClosing (dial : DialNo) (s : State) : Outcome := .next (whenRunning (closingReported dial) s)

/-! ### Bells and hammers (R64, R76, R78 to R80) -/

/-- R64: the lease's deadline has come. -/
def State.leaseOver (s : State) (n : Station) : Bool := s.leases[n].lease.deadline.any (· ≤ s.timer)

/-- R64. -/
def execLeaseDeadline (station : Station) (s : State) : Outcome :=
  .next (onlyIf (s.leaseOver station) (fun s => settle (lapse station s)) s)

/-- R76. -/
def execStrikeDue (s : State) : Outcome := .next (whenRunning (fun s => settle (runStrikes s)) s)

/-- R78. -/
def execHammerRecoveryEnd (bell : BellNo) (s : State) : Outcome :=
  .next (onlyIf (s.recovered bell) (fun s => settle (runStrikes s)) s)

/-- R79: a pulse has run its width. -/
def State.pulseOver (s : State) (b : BellNo) : Bool :=
  s.hammers[b].pulse.any fun p => decide (p.start + p.width ≤ s.timer)

/-- R79, R80, R129: the coil is de-energised; a miss that waited for the pulse is taken; a swing grant that waited
goes on. -/
def endHammerPulse (b : BellNo) (s : State) : Run :=
  let s := missIfDue b (s.onHammer b fun h => { h with pulse := none })
  let r := match s.driveOf b with
    | some d => grantAfterPulse d s
    | none => quiet s
  r.andThen runStrikes

/-- R79. -/
def execHammerPulseEnd (bell : BellNo) (s : State) : Outcome :=
  .next (onlyIf (s.pulseOver bell) (fun s => settle (endHammerPulse bell s)) s)

/-- R80: a report inside the 150 ms of the bell's window; one that comes later finds the miss already decided. -/
def execStrikeSensorReport (bell : BellNo) (s : State) : Outcome :=
  match s.hammers[bell].window with
  | some w => .next (onlyIf (decide (s.timer < w.start + Config.verifyMs)) (confirmBlow bell w) s)
  | none => .next s

/-- R80. -/
def execVerificationWindowEnd (bell : BellNo) (s : State) : Outcome := .next (missIfDue bell s)

/-! ### The hour run and the toll (R85, R86, R90, R91) -/

/-- R85. -/
def execHourFollowGapEnd (s : State) : Outcome := .next (settle (hourGapEnds s))

/-- R86. -/
def execHourPostRetry (s : State) : Outcome := .next (settle (hourRetries s))

/-- R86. -/
def execHourLateDeadline (s : State) : Outcome := .next (settle (hourTooLate s))

/-- R86. -/
def execHourMarkClear (s : State) : Outcome := .next (settle (hourMarkClears s))

/-- R90. -/
def execTollHeadWaitLimit (s : State) : Outcome := .next (settle (tollWaitLimit s))

/-- R91. -/
def execTollPostRetry (s : State) : Outcome := .next (settle (tollRetries s))

/-- R91. -/
def execTollMarkClear (s : State) : Outcome := .next (settle (tollMarkClears s))

/-! ### Tunes (R107, R114, R116, R117) -/

/-- R107. -/
def execLoadingTimerExpiry (slot : SlotNo) (s : State) : Outcome := .next (whenRunning (loadingExpired slot) s)

/-- R114. -/
def execTuneWaitLimit (s : State) : Outcome := .next (settle (headWaitLimit s))

/-- R116. -/
def execTuneStepBegin (s : State) : Outcome := .next (settle (beginStep s))

/-- R117. -/
def execPlayComplete (s : State) : Outcome := .next (settle (completePlay s))

/-! ### Swing drives (R128, R129, R131 to R137, R140, R142) -/

/-- The timer of the drive's state has run out in state `st`. -/
def State.driveTimeOut (s : State) (d : DriveNo) (st : SwingState) : Bool :=
  s.running && s.drives[d].state == st && s.drives[d].deadline.any (· ≤ s.timer)

/-- R201: a hammer position sensor's reading. -/
def readHammer (d : DriveNo) (p : HammerPos) (s : State) : State :=
  s.onPins fun x => { x with hammerPos := put x.hammerPos d p }

/-- The part runs with the drive in a state. -/
def State.driveIn (s : State) (d : DriveNo) (st : SwingState) : Bool := s.running && s.drives[d].state == st

/-- R129. -/
def execHammerPositionClear (drive : DriveNo) (s : State) : Outcome :=
  let s := readHammer drive .clear s
  .next (onlyIf (s.driveIn drive .lift) (fun s => settle (enterQueued drive s)) s)

/-- R129. -/
def execLiftWaitExpiry (drive : DriveNo) (s : State) : Outcome :=
  .next (onlyIf (s.driveTimeOut drive .lift) (fun s => settle (liftFails drive s)) s)

/-- R131, R133, R135, R140. -/
def execAngleCrossing (drive : DriveNo) (dir : Direction) (s : State) : Outcome :=
  .next (whenRunning (fun s => s.onDrive drive (Drive.crossing s.timer dir)) s)

/-- R131, R133, R135, R136, R140. -/
def execAnglePeak (drive : DriveNo) (angle : Nat) (s : State) : Outcome :=
  .next (whenRunning (fun s => settle (takePeak drive angle s)) s)

/-- R131. -/
def execSwingPulseEnd (drive : DriveNo) (s : State) : Outcome :=
  .next (onlyIf (s.drives[drive].pulseDue s.timer) (fun s => s.onDrive drive (Drive.endPulse s.timer)) s)

/-- R132, R142. -/
def execDeadTimeEnd (drive : DriveNo) (s : State) : Outcome :=
  .next (whenRunning (fun s => s.onDrive drive fun x => (x.closeDelayed s.timer).closeJog s.timer) s)

/-- R134. -/
def execKickTimeout (drive : DriveNo) (s : State) : Outcome :=
  .next (onlyIf (s.driveTimeOut drive .kick) (fun s => settle (kickExpires drive s)) s)

/-- R137: the sensor-loss wait has run out. -/
def State.sensorTimeOut (s : State) (d : DriveNo) : Bool :=
  s.running && s.drives[d].state.moving && s.drives[d].sensorDeadline.any (· ≤ s.timer)

/-- R137. -/
def execSensorLossExpiry (drive : DriveNo) (s : State) : Outcome :=
  .next (onlyIf (s.sensorTimeOut drive) (fun s => settle (sensorLost drive s)) s)

/-- R140. -/
def execSettleEnd (drive : DriveNo) (s : State) : Outcome :=
  .next (onlyIf (s.driveTimeOut drive .settle) (fun s => settle (enterDrop drive s)) s)

/-- R140. -/
def execHammerPositionEngaged (drive : DriveNo) (s : State) : Outcome :=
  let s := readHammer drive .engaged s
  .next (onlyIf (s.driveIn drive .drop) (fun s => settle (reachDown drive true s)) s)

/-- R140. -/
def execDropWaitExpiry (drive : DriveNo) (s : State) : Outcome :=
  .next (onlyIf (s.driveTimeOut drive .drop) (fun s => settle (dropFails drive s)) s)

/-- R128. -/
def execStopTime (drive : DriveNo) (s : State) : Outcome :=
  .next (onlyIf (s.running && s.stopDue drive) (fun s => settle (stopDrive drive .ended s)) s)

/-- R142: the jog has reached its end. -/
def Drive.jogOver (x : Drive) (timer : Nat) : Bool := x.jog.any fun j => decide (j.stop ≤ timer)

/-- R142. -/
def execJogEnd (drive : DriveNo) (s : State) : Outcome :=
  .next (onlyIf (s.drives[drive].jogOver s.timer) (fun s => s.onDrive drive (Drive.endJog s.timer)) s)

/-! ### Flood circuits and the gate (R168 to R171, R176, R180) -/

/-- R176. -/
def execForceExpiry (circuit : CircuitNo) (s : State) : Outcome := .next (settle (forceExpires circuit s))

/-- R168. -/
def execRestrikeEnd (circuit : CircuitNo) (s : State) : Outcome := .next (settle (endRestrike circuit s))

/-- R169. -/
def execFeedbackPresent (circuit : CircuitNo) (s : State) : Outcome :=
  .next (whenRunning (circuitLit circuit) (readFeedback circuit true s))

/-- R170: the feedback wait has run out in CLOSING. -/
def Circuit.waitOver (x : Circuit) (timer : Nat) : Bool := x.state == .closing && x.fbDeadline.any (· ≤ timer)

/-- R170. -/
def execFeedbackWaitEnd (circuit : CircuitNo) (s : State) : Outcome :=
  .next (onlyIf (s.circuits[circuit].waitOver s.timer) (feedbackFails circuit .noFeedback) s)

/-- R166, R170: the feedback test of an ON circuit has run for 500 ms. -/
def Circuit.mayLose (x : Circuit) (timer : Nat) : Bool :=
  x.present && x.fbPresent && x.state == .on && decide (x.fbFrom + Config.feedbackLostMs ≤ timer)

/-- R170. -/
def execFeedbackLost (circuit : CircuitNo) (s : State) : Outcome :=
  let s := readFeedback circuit false s
  .next (onlyIf (s.circuits[circuit].mayLose s.timer) (feedbackFails circuit .feedbackLost) s)

/-- R166, R171: the feedback test of a dark circuit has run for 2 s since its contactor opened. -/
def Circuit.mayStick (x : Circuit) (timer : Nat) : Bool :=
  x.present && x.fbPresent && x.state.dark && !x.contactor && decide (x.lastOpen + Config.stuckMs ≤ timer) &&
    decide (x.fbFrom + Config.stuckMs ≤ timer)

/-- R171. -/
def execFeedbackStuck (circuit : CircuitNo) (s : State) : Outcome :=
  let s := readFeedback circuit true s
  .next (onlyIf (s.running && s.circuits[circuit].mayStick s.timer) (fun s => settle (circuitStuck circuit s)) s)

/-- R180. -/
def execStaggerEnd (s : State) : Outcome := .next (settle (gateTest s))

/-- R179: the SUPPLY LIMIT input; a running gate follows it. -/
def readLimit (v : Bool) (s : State) : State :=
  whenRunning (fun s => s.onGate fun g => { g with limit := v }) (s.onPins fun p => { p with supplyLimit := v })

/-- R179, R180. -/
def execSupplyLimitAsserted (s : State) : Outcome := .next (readLimit true s)

/-- R179, R180. -/
def execSupplyLimitReleased (s : State) : Outcome := .next (settle (gateTest (readLimit false s)))

end Sys2Proof.Machine
end

