-- ==== Sys2Proof/Machine/Dispatch.lean ====
section
/-! DEFINITION. One arm per command. -/

namespace Sys2Proof.Machine

/-- The meaning of a command: its effect on everything but the queue. -/
def exec (i : Instr) (s : State) : Host.Outcome State Fault Refusal :=
  match i with
  | .timeSet h date secs => Sys2Proof.Machine.execTimeSet h date secs s
  | .timeRead h => Sys2Proof.Machine.execTimeRead h s
  | .dstRuleWrite h rule => Sys2Proof.Machine.execDstRuleWrite h rule s
  | .dstRuleRead h => Sys2Proof.Machine.execDstRuleRead h s
  | .restart h => Sys2Proof.Machine.execRestart h s
  | .factoryClear h => Sys2Proof.Machine.execFactoryClear h s
  | .dialSet h dial position known polarity => Sys2Proof.Machine.execDialSet h dial position known polarity s
  | .dialStop h dial => Sys2Proof.Machine.execDialStop h dial s
  | .dialRun h dial => Sys2Proof.Machine.execDialRun h dial s
  | .dialRead h dial => Sys2Proof.Machine.execDialRead h dial s
  | .bellClaim h bell => Sys2Proof.Machine.execBellClaim h bell s
  | .release h bell => Sys2Proof.Machine.execRelease h bell s
  | .keepalive h => Sys2Proof.Machine.execKeepalive h s
  | .bellRead h bell => Sys2Proof.Machine.execBellRead h bell s
  | .frameRead h => Sys2Proof.Machine.execFrameRead h s
  | .stationUnbar h station => Sys2Proof.Machine.execStationUnbar h station s
  | .hammerClear h bell => Sys2Proof.Machine.execHammerClear h bell s
  | .hammerTest h bell => Sys2Proof.Machine.execHammerTest h bell s
  | .handStrike h bell delay => Sys2Proof.Machine.execHandStrike h bell delay s
  | .toll h bell count interval => Sys2Proof.Machine.execToll h bell count interval s
  | .tollStop h => Sys2Proof.Machine.execTollStop h s
  | .strikePlanWrite h plan => Sys2Proof.Machine.execStrikePlanWrite h plan s
  | .strikePlanRead h => Sys2Proof.Machine.execStrikePlanRead h s
  | .countersSnapshot h clear => Sys2Proof.Machine.execCountersSnapshot h clear s
  | .countersRead h part => Sys2Proof.Machine.execCountersRead h part s
  | .hammerRead h bell => Sys2Proof.Machine.execHammerRead h bell s
  | .engineRead h => Sys2Proof.Machine.execEngineRead h s
  | .tuneBegin h slot name tempo total => Sys2Proof.Machine.execTuneBegin h slot name tempo total s
  | .tuneSteps h slot offset steps => Sys2Proof.Machine.execTuneSteps h slot offset steps s
  | .tuneEnd h slot => Sys2Proof.Machine.execTuneEnd h slot s
  | .tuneAbort h slot => Sys2Proof.Machine.execTuneAbort h slot s
  | .tuneRead h slot offset => Sys2Proof.Machine.execTuneRead h slot offset s
  | .play h slot repeats => Sys2Proof.Machine.execPlay h slot repeats s
  | .tuneStop h => Sys2Proof.Machine.execTuneStop h s
  | .playerRead h => Sys2Proof.Machine.execPlayerRead h s
  | .swingStart h bell duration => Sys2Proof.Machine.execSwingStart h bell duration s
  | .swingStop h bell => Sys2Proof.Machine.execSwingStop h bell s
  | .jog h bell dir duration => Sys2Proof.Machine.execJog h bell dir duration s
  | .swingRead h drive => Sys2Proof.Machine.execSwingRead h drive s
  | .scheduleWrite h index entry => Sys2Proof.Machine.execScheduleWrite h index entry s
  | .scheduleDelete h index => Sys2Proof.Machine.execScheduleDelete h index s
  | .scheduleRead h index => Sys2Proof.Machine.execScheduleRead h index s
  | .scheduleStatus h => Sys2Proof.Machine.execScheduleStatus h s
  | .quietWrite h index window => Sys2Proof.Machine.execQuietWrite h index window s
  | .quietRead h index => Sys2Proof.Machine.execQuietRead h index s
  | .floodForce h circuit level expiry => Sys2Proof.Machine.execFloodForce h circuit level expiry s
  | .floodClear h circuit => Sys2Proof.Machine.execFloodClear h circuit s
  | .floodRead h circuit => Sys2Proof.Machine.execFloodRead h circuit s
  | .floodStatus h => Sys2Proof.Machine.execFloodStatus h s
  | .floodPlanWrite h index entry => Sys2Proof.Machine.execFloodPlanWrite h index entry s
  | .floodPlanRead h index => Sys2Proof.Machine.execFloodPlanRead h index s
  | .duskTableWrite h first entries => Sys2Proof.Machine.execDuskTableWrite h first entries s
  | .duskTableRead h => Sys2Proof.Machine.execDuskTableRead h s
  | .gateRead h => Sys2Proof.Machine.execGateRead h s
  | .installWriteDial h dial rec => Sys2Proof.Machine.execInstallWriteDial h dial rec s
  | .installWriteBell h bell present => Sys2Proof.Machine.execInstallWriteBell h bell present s
  | .installWriteFrame h keepMax barLimit => Sys2Proof.Machine.execInstallWriteFrame h keepMax barLimit s
  | .installWriteHammer h bell rec => Sys2Proof.Machine.execInstallWriteHammer h bell rec s
  | .installWritePlayer h waitLimit => Sys2Proof.Machine.execInstallWritePlayer h waitLimit s
  | .installWriteDrive h drive rec => Sys2Proof.Machine.execInstallWriteDrive h drive rec s
  | .installWriteSchedule h catchUp => Sys2Proof.Machine.execInstallWriteSchedule h catchUp s
  | .installWriteCircuit h circuit rec => Sys2Proof.Machine.execInstallWriteCircuit h circuit rec s
  | .installWriteGate h stagger => Sys2Proof.Machine.execInstallWriteGate h stagger s
  | .installWriteLink h link enabled => Sys2Proof.Machine.execInstallWriteLink h link enabled s
  | .permitWrite h station rights => Sys2Proof.Machine.execPermitWrite h station rights s
  | .permitRead h => Sys2Proof.Machine.execPermitRead h s
  | .watchSet h slot target mode => Sys2Proof.Machine.execWatchSet h slot target mode s
  | .watchClear h slot => Sys2Proof.Machine.execWatchClear h slot s
  | .watchRead h => Sys2Proof.Machine.execWatchRead h s
  | .statusRead h => Sys2Proof.Machine.execStatusRead h s
  | .unknownRequest h kind => Sys2Proof.Machine.execUnknownRequest h kind s
  | .receiveFrame link key bytes carried => Sys2Proof.Machine.execReceiveFrame link key bytes carried s
  | .frameGapTimeout link => Sys2Proof.Machine.execFrameGapTimeout link s
  | .transmitEnd link key => Sys2Proof.Machine.execTransmitEnd link key s
  | .minuteEvent => Sys2Proof.Machine.execMinuteEvent s
  | .summerChange => Sys2Proof.Machine.execSummerChange s
  | .holdover => Sys2Proof.Machine.execHoldover s
  | .rangeEnd => Sys2Proof.Machine.execRangeEnd s
  | .mainsLoss => Sys2Proof.Machine.execMainsLoss s
  | .mainsReturn batteryFailed => Sys2Proof.Machine.execMainsReturn batteryFailed s
  | .resetAsserted => Sys2Proof.Machine.execResetAsserted s
  | .resetReleased => Sys2Proof.Machine.execResetReleased s
  | .targetIncrement dial => Sys2Proof.Machine.execTargetIncrement dial s
  | .dialFastIntervalEnd dial => Sys2Proof.Machine.execDialFastIntervalEnd dial s
  | .dialImpulseEnd dial => Sys2Proof.Machine.execDialImpulseEnd dial s
  | .pairGapEnd dial => Sys2Proof.Machine.execPairGapEnd dial s
  | .currentSenseLoad dial => Sys2Proof.Machine.execCurrentSenseLoad dial s
  | .currentSenseShort dial => Sys2Proof.Machine.execCurrentSenseShort dial s
  | .syncClosing dial => Sys2Proof.Machine.execSyncClosing dial s
  | .leaseDeadline station => Sys2Proof.Machine.execLeaseDeadline station s
  | .strikeDue => Sys2Proof.Machine.execStrikeDue s
  | .hammerRecoveryEnd bell => Sys2Proof.Machine.execHammerRecoveryEnd bell s
  | .hammerPulseEnd bell => Sys2Proof.Machine.execHammerPulseEnd bell s
  | .strikeSensorReport bell => Sys2Proof.Machine.execStrikeSensorReport bell s
  | .verificationWindowEnd bell => Sys2Proof.Machine.execVerificationWindowEnd bell s
  | .hourFollowGapEnd => Sys2Proof.Machine.execHourFollowGapEnd s
  | .hourPostRetry => Sys2Proof.Machine.execHourPostRetry s
  | .hourLateDeadline => Sys2Proof.Machine.execHourLateDeadline s
  | .hourMarkClear => Sys2Proof.Machine.execHourMarkClear s
  | .tollHeadWaitLimit => Sys2Proof.Machine.execTollHeadWaitLimit s
  | .tollPostRetry => Sys2Proof.Machine.execTollPostRetry s
  | .tollMarkClear => Sys2Proof.Machine.execTollMarkClear s
  | .loadingTimerExpiry slot => Sys2Proof.Machine.execLoadingTimerExpiry slot s
  | .tuneWaitLimit => Sys2Proof.Machine.execTuneWaitLimit s
  | .tuneStepBegin => Sys2Proof.Machine.execTuneStepBegin s
  | .playComplete => Sys2Proof.Machine.execPlayComplete s
  | .hammerPositionClear drive => Sys2Proof.Machine.execHammerPositionClear drive s
  | .liftWaitExpiry drive => Sys2Proof.Machine.execLiftWaitExpiry drive s
  | .angleCrossing drive dir => Sys2Proof.Machine.execAngleCrossing drive dir s
  | .anglePeak drive angle => Sys2Proof.Machine.execAnglePeak drive angle s
  | .swingPulseEnd drive => Sys2Proof.Machine.execSwingPulseEnd drive s
  | .deadTimeEnd drive => Sys2Proof.Machine.execDeadTimeEnd drive s
  | .kickTimeout drive => Sys2Proof.Machine.execKickTimeout drive s
  | .sensorLossExpiry drive => Sys2Proof.Machine.execSensorLossExpiry drive s
  | .settleEnd drive => Sys2Proof.Machine.execSettleEnd drive s
  | .hammerPositionEngaged drive => Sys2Proof.Machine.execHammerPositionEngaged drive s
  | .dropWaitExpiry drive => Sys2Proof.Machine.execDropWaitExpiry drive s
  | .stopTime drive => Sys2Proof.Machine.execStopTime drive s
  | .jogEnd drive => Sys2Proof.Machine.execJogEnd drive s
  | .forceExpiry circuit => Sys2Proof.Machine.execForceExpiry circuit s
  | .restrikeEnd circuit => Sys2Proof.Machine.execRestrikeEnd circuit s
  | .feedbackPresent circuit => Sys2Proof.Machine.execFeedbackPresent circuit s
  | .feedbackWaitEnd circuit => Sys2Proof.Machine.execFeedbackWaitEnd circuit s
  | .feedbackLost circuit => Sys2Proof.Machine.execFeedbackLost circuit s
  | .feedbackStuck circuit => Sys2Proof.Machine.execFeedbackStuck circuit s
  | .staggerEnd => Sys2Proof.Machine.execStaggerEnd s
  | .supplyLimitAsserted => Sys2Proof.Machine.execSupplyLimitAsserted s
  | .supplyLimitReleased => Sys2Proof.Machine.execSupplyLimitReleased s

end Sys2Proof.Machine
end

