-- ==== Sys2Proof/Machine/Tick.lean ====
section
/-! DEFINITION. What one millisecond does when no command waits (log 1): the count and the timer advance, and the event
commands that have come due join the queue. -/

namespace Sys2Proof.Machine

/-- A command, if its condition holds. -/
def due (c : Bool) (i : Instr) : List Instr := if c then [i] else []

/-- R1, R3: one millisecond at the time base. -/
def TimeBase.tick (tb : TimeBase) : TimeBase :=
  { tb.count with sinceSet := if tb.validity = .unset then tb.sinceSet else tb.sinceSet + 1 }

/-- R26: the target of a present dial advances at this local instant; where the boundary is a jump (R10), the dial has
been reconciled before its increment comes (R43). -/
def State.incrementDue (s : State) (d : DialNo) : Bool :=
  s.running && s.dials[d].present && s.tb.ms == 0 && s.tb.loc.secs % s.dials[d].step.secs == 0

/-- R2, R3, R10, R11: the time base's events; `ended` says that the range has ended. A boundary at which the summer
state is to change is given its minute event too, after the change. The jump of the change stands for the boundary,
and that minute event then finds it seen; it is issued where a DST RULE WRITE taken first leaves nothing to change (R15). -/
def clockDue (ended : Bool) (s : State) : List Instr :=
  due ended .rangeEnd ++ due s.tb.holdoverDue .holdover ++ due s.tb.changeDue .summerChange ++
    due (s.boundaryUnseen || (ended && s.running)) .minuteEvent ++
    allDials.flatMap fun d => due (s.incrementDue d || (ended && s.running)) (.targetIncrement d)

/-- R30 to R32: a dial's timers. -/
def dialDue (s : State) (d : DialNo) : List Instr :=
  due (s.dials[d].pulseEnded s.timer).isSome (.dialImpulseEnd d) ++ due (s.dials[d].gapEnded s.timer) (.pairGapEnd d) ++
    due (s.running && s.dials[d].present && s.mayImpulse d) (.dialFastIntervalEnd d)

/-- R78: the recovery of a bell has passed at this moment, and a strike waits for it. -/
def State.recoveryDue (s : State) (b : BellNo) : Bool :=
  s.recovered b && s.hammers[b].lastPulse + s.hammers[b].recovery == s.timer && s.strikes.any fun x => x.bell == b && x.fitted

/-- R78 to R80: a hammer's timers. -/
def hammerDue (s : State) (b : BellNo) : List Instr :=
  due (s.pulseOver b) (.hammerPulseEnd b) ++ due (s.missDue b).isSome (.verificationWindowEnd b) ++
    due (s.recoveryDue b) (.hammerRecoveryEnd b)

/-- R76: the due time of a strike has come. -/
def State.strikeDueNow (s : State) : Bool := s.strikes.any fun x => !x.fitted && decide (x.due ≤ s.now)

/-- R85, R86: the hour run's timers. -/
def hourDue (s : State) : List Instr :=
  due (s.hour.state == .gap && decide (s.hour.gapEnd ≤ s.timer)) .hourFollowGapEnd ++
    due (s.hour.retry.any fun r => decide (r.tryAt ≤ s.timer)) .hourPostRetry ++
    due (s.hour.retry.isSome && decide (s.hour.deadline ≤ s.timer)) .hourLateDeadline ++
    due (s.hour.clearAt.any (· ≤ s.timer)) .hourMarkClear

/-- R90, R91: the toll generator's timers. -/
def tollDue (s : State) : List Instr :=
  due (s.toll.any fun r => r.retry.any fun x => decide (x.tryAt ≤ s.timer)) .tollPostRetry ++
    due (s.toll.any fun r => r.clearAt.any (· ≤ s.timer)) .tollMarkClear ++
    due (s.tollQueue.head?.any fun t => t.expired s.timer) .tollHeadWaitLimit

/-- R107: a slot's loading timer. -/
def loadingDue (s : State) (i : SlotNo) : List Instr :=
  due (s.slots[i].state == .loading && decide (s.slots[i].loadEnd ≤ s.timer)) (.loadingTimerExpiry i)

/-- R114, R116, R117: the player's timers. -/
def playerDue (s : State) : List Instr :=
  due (s.player.play.any fun p => p.nextAt.any (· ≤ s.timer)) .tuneStepBegin ++
    due (s.player.play.any fun p => decide (s.playEnd p ≤ s.timer)) .playComplete ++
    due (s.player.queue.head?.any fun r => decide (s.waitEnd r ≤ s.timer)) .tuneWaitLimit

/-- R132, R142: a delayed pulse or jog may close its contactor. -/
def Drive.closingDue (x : Drive) (timer : Nat) : Bool :=
  (x.pulse.any fun p => !p.closed && x.mayClose timer p.dir) || (x.jog.any fun j => x.jogReady timer j)

/-- R128 to R142: a drive's timers, and the hammer position as a level (log 13). -/
def driveDue (s : State) (d : DriveNo) : List Instr :=
  let x := s.drives[d]
  due (s.running && s.stopDue d) (.stopTime d) ++
    due (s.driveIn d .lift && s.pins.hammerPos[d] == .clear) (.hammerPositionClear d) ++
    due (s.driveTimeOut d .lift) (.liftWaitExpiry d) ++ due (s.driveTimeOut d .kick) (.kickTimeout d) ++
    due (s.sensorTimeOut d) (.sensorLossExpiry d) ++ due (s.driveTimeOut d .settle) (.settleEnd d) ++
    due (s.driveIn d .drop && s.pins.hammerPos[d] == .engaged) (.hammerPositionEngaged d) ++
    due (s.driveTimeOut d .drop) (.dropWaitExpiry d) ++ due (x.pulseDue s.timer) (.swingPulseEnd d) ++
    due (x.jogOver s.timer) (.jogEnd d) ++ due (x.closingDue s.timer) (.deadTimeEnd d)

/-- R168, R170, R176: a circuit's timers. -/
def circuitDue (s : State) (c : CircuitNo) : List Instr :=
  let x := s.circuits[c]
  due (x.expiryAt.any fun t => decide (t ≤ s.now)) (.forceExpiry c) ++
    due (x.state == .cooling && x.delayPassed s.timer) (.restrikeEnd c) ++
    due (x.waitOver s.timer) (.feedbackWaitEnd c)

/-- R188: a link's gap. -/
def linkDue (s : State) (n : Station) : List Instr :=
  due (s.hears n && s.links[n].rx.gapDue s.timer) (.frameGapTimeout n)

/-- The event commands of every block but the strikes that have come due, in the order of log 3. -/
def blockEvents (ended : Bool) (s : State) : List Instr :=
  clockDue ended s ++ allDials.flatMap (dialDue s) ++
    allStations.flatMap (fun n => due (s.leaseOver n) (.leaseDeadline n)) ++ allBells.flatMap (hammerDue s) ++
    hourDue s ++ tollDue s ++ allSlots.flatMap (loadingDue s) ++ playerDue s ++
    allDrives.flatMap (driveDue s) ++ allCircuits.flatMap (circuitDue s) ++ due s.grantable.isSome .staggerEnd ++
    allStations.flatMap (linkDue s)

/-- R76: the strikes are looked at last, when one is due or when an event of this millisecond may post one (log 3, log
48). DESIGN CHOICE (log 68): in the millisecond at which the range ends (R2), stop times and expiries are looked at
before RANGE END has moved the line, so that one which falls at that very instant acts a millisecond later. -/
def dueEvents (ended : Bool) (s : State) : List Instr :=
  let events := blockEvents ended s
  events ++ due (s.strikeDueNow || !events.isEmpty) .strikeDue

/-- One millisecond passes. -/
def tick (s : State) : State :=
  let s' := { s with timer := s.timer + 1, tb := s.tb.tick }
  { s' with pending := s.pending ++ dueEvents s.tb.atRangeEnd s' }

end Sys2Proof.Machine
end

