-- ==== Sys2Proof/Machine/Outputs.lean ====
section
/-! DEFINITION. What the part shows outside: the levels of its outputs (R201), and the bytes of every frame it sends
(R187, R190, R191, R194). -/

namespace Sys2Proof.Machine

/-! ### Outputs (R125, R201) -/

/-- The output levels of the part. -/
structure Outputs where
  /-- the polarity in which each dial's bridge is driven -/
  bridges : Vector (Option Polarity) 4
  /-- the hammer coils energised -/
  coils : Vector Bool 12
  /-- the hammer lift actuators driven to retract -/
  lifts : Vector Bool 6
  /-- the forward swing contactors -/
  forward : Vector Bool 6
  /-- the reverse swing contactors -/
  reverse : Vector Bool 6
  /-- the flood contactors -/
  floods : Vector Bool 8
  deriving DecidableEq, Repr

/-- R18, R201: every output in its off state. -/
def Outputs.off : Outputs :=
  { bridges := Vector.replicate 4 none, coils := Vector.replicate 12 false, lifts := Vector.replicate 6 false,
    forward := Vector.replicate 6 false, reverse := Vector.replicate 6 false, floods := Vector.replicate 8 false }

/-- R125: the states in which the hammer lift actuator retracts or is retracted. -/
def SwingState.lifted : SwingState → Bool
  | .down | .drop => false
  | .lift | .queued | .kick | .rise | .ringing | .stopping | .settle => true

/-- R201: the output levels, each in its off state while the part is stopped. -/
def State.outputs (s : State) : Outputs :=
  if s.running then
    { bridges := s.dials.map fun d => d.inFlight.bind fun i => i.kind.drives
      coils := s.hammers.map fun h => h.pulse.isSome
      lifts := s.drives.map fun d => d.state.lifted
      forward := s.drives.map fun d => d.fwd.closed
      reverse := s.drives.map fun d => d.rev.closed
      floods := s.circuits.map fun c => c.contactor }
  else .off

/-! ### The head of a frame sent (R187, R190, R191, R194) -/

/-- R191: the reason codes; 0x0A is reserved and is not sent. -/
def Reason.code : Reason → Byte
  | .notPermitted => 0x01#8
  | .notOwner => 0x02#8
  | .owned => 0x03#8
  | .busy => 0x04#8
  | .full => 0x05#8
  | .noSuch => 0x06#8
  | .badValue => 0x07#8
  | .barred => 0x08#8
  | .incomplete => 0x09#8
  | .interlock => 0x0B#8
  | .keyRequired => 0x0C#8

/-- R190: the kind codes of replies. -/
def Reply.code : Reply → Byte
  | .done _ _ => 0x80#8
  | .queued _ => 0x81#8
  | .pending _ _ => 0x82#8
  | .refused _ _ => 0x83#8

/-- R191: the flags byte, bit 0 being CLAMPED. -/
def flagsByte (clamped : Bool) : Byte := if clamped then 1#8 else 0#8

/-- R191: the bytes with which a reply's body begins. DESIGN CHOICE (log 65): the place of PENDING, whose width R191 does
not give, is one byte. -/
def Reply.lead : Reply → List Byte
  | .done clamped _ => [flagsByte clamped]
  | .queued clamped => [flagsByte clamped]
  | .pending clamped place => [flagsByte clamped, BitVec.ofNat 8 place]
  | .refused reason _ => [reason.code]

/-- R190: the kind codes of notices. -/
def Notice.code : Notice → Byte
  | .timeChanged _ _ => 0xC0#8
  | .changed _ _ => 0xC1#8
  | .bellGranted _ _ _ => 0xC2#8
  | .bellTakenBack _ _ _ _ _ => 0xC3#8
  | .complete _ _ => 0xC4#8
  | .fault _ => 0xC5#8
  | .watchHit _ _ _ _ _ _ => 0xC6#8
  | .frameError _ _ => 0xC7#8
  | .resync _ _ => 0xC8#8

/-- R187, R190: the KIND of a frame sent. -/
def OutFrame.kind : OutFrame → Byte
  | .reply r => r.reply.code
  | .notice n => n.code

/-- R187, R190, R194: the TAG of a frame sent: that of the request for a reply, 0 for a notice. -/
def OutFrame.tag : OutFrame → Byte
  | .reply r => r.tag
  | .notice _ => 0#8

/-! ### The body of a frame sent (R187, R191, R194) -/

/-- R187: a field of `width` bytes of a body, low byte first. -/
def lowFirst (width : Nat) (v : Nat) : List Byte := (List.range width).map fun i => BitVec.ofNat 8 (v >>> (8 * i))

/-- R93, log 49: a due time on the tower ms line as the six bytes that the 12-byte reply of the worked example of 09
leaves it. -/
def dueBytes (t : Int) : List Byte := lowFirst 6 (t % 2 ^ 48).toNat

/-- R191: the result fields of a DONE as bytes, where the rules fix them. -/
def Payload.bytes : Payload → Option (List Byte)
  | .none => some []
  | .due t => some (dueBytes t)
  | _ => Option.none

/-- R191: the bytes after those a reply's body begins with, where the rules fix them. -/
def Reply.fields : Reply → Option (List Byte)
  | .done _ p => p.bytes
  | .queued _ => some []
  | .pending _ _ => some []
  | .refused _ .none => some []
  | .refused _ _ => none

/-- R194: the bytes with which a notice's body begins, where the rules fix them: the tag of a COMPLETE. -/
def Notice.lead : Notice → List Byte
  | .complete tag _ => [tag]
  | _ => []

/-- The longest body (R187). -/
def maxBody : Nat := 58

end Sys2Proof.Machine

namespace Sys2Proof.Config

/-- A free value (R191, R194, log 49): the bytes of a sent body after those that the rules fix, whose widths and codes
the spec does not give. Nothing constrains it. -/
opaque bodyRest (f : Machine.OutFrame) : List Byte

/-- A free value (R194, log 49): the byte that a cause of a discard is sent as. Nothing constrains it. -/
opaque discardCode (c : Machine.Discard) : Byte

end Sys2Proof.Config

namespace Sys2Proof.Machine

/-- The bytes of a body that begins with `lead` and goes on with bytes the rules do not fix. -/
def openBody (lead : List Byte) (f : OutFrame) : List Byte := lead ++ (Config.bodyRest f).take (maxBody - lead.length)

/-- R191: the body of a reply. -/
def ReplyFrame.body (r : ReplyFrame) : List Byte :=
  match r.reply.fields with
  | some l => r.reply.lead ++ l
  | none => openBody r.reply.lead (.reply r)

/-- R194: the body of a notice; a FRAME ERROR is its cause and its count, two bytes by the worked example of 09 (log
49). -/
def Notice.body (n : Notice) : List Byte :=
  match n with
  | .frameError cause count => [Config.discardCode cause, BitVec.ofNat 8 count]
  | _ => openBody n.lead (.notice n)

/-- R187: the BODY of a frame sent. -/
def OutFrame.body : OutFrame → List Byte
  | .reply r => r.body
  | .notice n => n.body

/-! ### The frame on the wire (R187) -/

/-- R187: the CHECK that makes LENGTH, KIND, TAG, the BODY bytes and CHECK sum to 0 mod 256. -/
def checkByte (bytes : List Byte) : Byte := 0#8 - bytes.foldl (· + ·) 0#8

/-- R187: the frame on the wire with a kind, a tag and a body. -/
def wireFrame (kind tag : Byte) (body : List Byte) : List Byte :=
  let summed := BitVec.ofNat 8 (body.length + 2) :: kind :: tag :: body
  Config.syncByte :: summed ++ [checkByte summed]

/-- R187: the bytes of a frame sent, back to back. -/
def OutFrame.wire (f : OutFrame) : List Byte := wireFrame f.kind f.tag f.body

/-- R192: the bytes that a link's transmitter is sending; none while it is idle. -/
def State.sending (s : State) (n : Station) : List Byte :=
  match s.links[n].tx with
  | some f => f.wire
  | none => []

end Sys2Proof.Machine
end

