-- ==== Sys2Proof/Machine/Store.lean ====
section
/-! DEFINITION. The retained store as one record (R16), its check value (R17), and the check that is held over its
contents. -/

namespace Sys2Proof.Machine

/-- R16, R24: the retained fields of a dial. -/
structure StoredDial where
  present : Bool
  step : DialStep
  syncFitted : Bool
  autoCorrect : Bool
  width : Nat
  fast : Nat
  hold : Nat
  pos : Nat
  known : Bool
  lastPol : Polarity
  runEnable : Bool
  fault : DialFault
  absent : Nat
  syncWarn : Bool
  deriving DecidableEq, Repr

/-- R16, R72: the retained fields of a hammer. -/
structure StoredHammer where
  fitted : Bool
  sensor : Bool
  width : Nat
  recovery : Nat
  ok : Bool
  cause : HammerCause
  misses : Nat
  deriving DecidableEq, Repr

/-- R16, R123: the retained fields of a drive. -/
structure StoredDrive where
  bell : Option BellNo
  deadTime : Nat
  kickTime : Nat
  target : Nat
  rest : Nat
  settle : Nat
  brake : Bool
  state : SwingState
  deriving DecidableEq, Repr

/-- R16, R165: the retained fields of a circuit. -/
structure StoredCircuit where
  present : Bool
  restrike : Nat
  fbPresent : Bool
  deriving DecidableEq, Repr

/-- R16: the retained store, owner by owner. -/
structure Store where
  validity : Validity
  summer : Season
  heldOffset : Nat
  rule : DstRule
  lastSeen : LastSeen
  dials : Vector StoredDial 4
  bells : Vector Bool 12
  frame : Frame
  hammers : Vector StoredHammer 12
  plan : StrikePlan
  counters : Counters
  slots : Vector Slot 16
  waitLimit : Nat
  drives : Vector StoredDrive 6
  entries : Vector (Option Entry) 96
  windows : Vector QuietWindow 8
  catchUp : Nat
  circuits : Vector StoredCircuit 8
  floodPlan : Vector FloodPlan 16
  duskTable : Vector SunPair 24
  stagger : Nat
  rights : Vector Rights 3
  links : Vector Bool 3
  deriving DecidableEq, Repr

def Dial.stored (d : Dial) : StoredDial :=
  ⟨d.present, d.step, d.syncFitted, d.autoCorrect, d.width, d.fast, d.hold, d.pos, d.known, d.lastPol, d.runEnable, d.fault,
    d.absent, d.syncWarn⟩

def Hammer.stored (h : Hammer) : StoredHammer := ⟨h.fitted, h.sensor, h.width, h.recovery, h.ok, h.cause, h.misses⟩

def Drive.stored (d : Drive) : StoredDrive :=
  ⟨d.bell, d.deadTime, d.kickTime, d.target, d.rest, d.settle, d.brake, d.state⟩

def Circuit.stored (c : Circuit) : StoredCircuit := ⟨c.present, c.restrike, c.fbPresent⟩

/-- R16: the contents of the retained store. -/
def State.store (s : State) : Store :=
  { validity := s.tb.validity, summer := s.tb.summer, heldOffset := s.tb.heldOffset, rule := s.tb.rule,
    lastSeen := s.tb.lastSeen, dials := s.dials.map Dial.stored, bells := s.bells.map Bell.present, frame := s.frame,
    hammers := s.hammers.map Hammer.stored, plan := s.plan, counters := s.counters, slots := s.slots,
    waitLimit := s.player.waitLimit, drives := s.drives.map Drive.stored, entries := s.entries, windows := s.windows,
    catchUp := s.sched.catchUp, circuits := s.circuits.map Circuit.stored, floodPlan := s.floodPlan,
    duskTable := s.duskTable, stagger := s.gate.stagger, rights := s.rights, links := s.linkSettings }

end Sys2Proof.Machine

namespace Sys2Proof.Config

/-- A free value (R17, log 7): the 32-bit check value that belongs to the store's contents. The spec gives no check
function, and nothing constrains it. -/
opaque storeCheck (contents : Machine.Store) : BitVec 32

end Sys2Proof.Config

namespace Sys2Proof.Machine

/-- R17: the check value that the store holds: it follows every write of an item, since State keeps its difference
from the check recomputed. -/
def State.heldCheck (s : State) : BitVec 32 := Config.storeCheck s.store ^^^ s.power.checkDiff

end Sys2Proof.Machine
end

