-- ==== Sys2Proof/Safety.lean ====
section
/-! DEFINITION. What counts as a safe state: the laws of the device that are laws of one state; the laws of what a step
closes and grants; and the words in which the statements say what a command leaves. -/

namespace Sys2Proof.Machine

/-- R27: every dial position lies in 0 … N − 1 for its step. -/
abbrev DialsOnFace (s : State) : Prop := ∀ d : DialNo, s.dials[d].pos < s.dials[d].n

/-- R1, R6, R7: the time base holds a real standard date of 2000 … 2099, seconds of day and milliseconds in their
ranges, and offsets of at most 120 min. -/
abbrev ClockInRange (tb : TimeBase) : Prop :=
  realDate tb.date = true ∧ tb.secs < 86400 ∧ tb.ms < 1000 ∧ tb.rule.offset ≤ 120 ∧ tb.heldOffset ≤ 120

/-- R132: the forward and reverse contactors of a swing drive are never closed together. -/
abbrev ContactorsApart (s : State) : Prop := ∀ d : DriveNo, ¬(s.drives[d].fwd.closed = true ∧
  s.drives[d].rev.closed = true)

/-- R165, R168: an absent circuit is OFF, and a circuit is WAITING only when its restrike delay has passed. -/
abbrev CircuitsWait (s : State) : Prop :=
  ∀ c : CircuitNo, (s.circuits[c].present = false → s.circuits[c].state = .off) ∧
    (s.circuits[c].state = .waiting → s.circuits[c].delayPassed s.timer = true)

/-- R180, R181: the stagger interval is at least a second, and the last grant is none before the first. -/
abbrev GateTimed (s : State) : Prop := 1 ≤ s.gate.stagger ∧ (s.gate.grants = 0 → s.gate.lastGrant = none)

/-- R78: at most three hammer coils are energised. -/
abbrev CoilsBounded (s : State) : Prop := s.coils ≤ Config.coilMax

/-- R75: the strike list holds at most 32 strikes. -/
abbrev StrikesBounded (s : State) : Prop := s.strikes.length ≤ Config.strikeMax

/-- Section 4.7: the toll queue holds at most four entries. -/
abbrev TollsBounded (s : State) : Prop := s.tollQueue.length ≤ Config.tollMax

/-- R109: the tune request queue holds at most 8 requests, of which at most one has a quarter source. -/
abbrev TunesBounded (s : State) : Prop :=
  s.player.queue.length ≤ Config.tuneQueueMax ∧ (s.player.queue.filter TuneReq.isQuarter).length ≤ 1

/-- R194: each link's notice queue holds at most 16 notices. -/
abbrev NoticesBounded (s : State) : Prop := ∀ n : Station, s.links[n].notices.length ≤ Config.noticeMax

/-- R102: the steps of all READY and LOADING slots together never exceed the pool. -/
abbrev PoolWithin (s : State) : Prop := s.poolUsed ≤ Config.poolSize

/-- R95: for every bell, the live confirmed count never exceeds the live commanded count. -/
abbrev CountsOrdered (s : State) : Prop :=
  ∀ b : BellNo, s.counters.bells[b].confirmed ≤ s.counters.bells[b].commanded

/-- R179: a requester stands in the gate's queue at most once, so that the queue holds at most fourteen. -/
abbrev GateBounded (s : State) : Prop := s.gate.queue.length ≤ 14 ∧ (s.gate.queue.map GateReq.who).Nodup

/-- R55: a claimant waits for a bell at most once, so that a pending list holds at most four claims. -/
abbrev ClaimsBounded (s : State) : Prop :=
  ∀ b : BellNo, s.bells[b].waiting.length ≤ 4 ∧ (s.bells[b].waiting.map Claim.claimant).Nodup

/-- R37, R65, R72: absent sync closures are at most 2, lapses at most 15, consecutive misses at most 3. -/
abbrev SmallCounts (s : State) : Prop :=
  (∀ d : DialNo, s.dials[d].absent ≤ 2) ∧ (∀ n : Station, s.leases[n].lapses ≤ 15) ∧
    ∀ b : BellNo, s.hammers[b].misses ≤ Config.missMax

/-- The counts of the part that are 16 bits wide, of the hammer engine and the swing drives (R95), of the bells and
drives that skip starts (R48, R123), of the player (R119), the schedule (R162), the gate (R181) and the links (R186).
-/
def State.wordCounts (s : State) : List Nat :=
  (s.counters.bells.toList.flatMap fun c => [c.commanded, c.confirmed, c.missed, c.withheld, c.late]) ++
  (s.counters.drives.toList.flatMap fun c => [c.starts, c.startFails, c.trips, c.interlocks]) ++
  [s.counters.hourDropped, s.counters.tollsSilenced, s.counters.tollsAbandoned, s.counters.tollsDropped] ++
  s.bells.toList.map Bell.skipped ++ s.drives.toList.map Drive.skipped ++
  [s.player.counts.completed, s.player.counts.stopped, s.player.counts.abandoned, s.player.counts.silenced,
    s.player.counts.dropped, s.sched.fired, s.sched.passed, s.sched.expired, s.gate.grants] ++
  (s.links.toList.flatMap fun l => [l.counts.received, l.counts.check, l.counts.length, l.counts.gap, l.counts.overrun,
    l.counts.sent, l.counts.resyncs])

/-- R95, R119, R162, R181, R186: every count that is 16 bits wide lies within them. -/
abbrev WordCounts (s : State) : Prop := ∀ v ∈ s.wordCounts, v ≤ 65535

/-- Section 3.1: only SWING holds a bell on a station's behalf, and a claim that waits asks for none (R54). -/
abbrev BehalfsInOrder (s : State) : Prop :=
  ∀ b : BellNo, (s.bells[b].holder ≠ .swing → s.bells[b].behalf = none) ∧ ∀ c ∈ s.bells[b].waiting, c.behalf = none

/-- The laws of the queues, of the store and of the counts, together. -/
abbrev Bounded (s : State) : Prop :=
  CoilsBounded s ∧ StrikesBounded s ∧ TollsBounded s ∧ TunesBounded s ∧ NoticesBounded s ∧ PoolWithin s ∧
    CountsOrdered s ∧
    GateBounded s ∧ ClaimsBounded s ∧ SmallCounts s ∧ WordCounts s

/-- Every law of the device that is a law of one state. -/
abbrev Safe (s : State) : Prop :=
  DialsOnFace s ∧ ClockInRange s.tb ∧ ContactorsApart s ∧ CircuitsWait s ∧ GateTimed s ∧ BehalfsInOrder s ∧ Bounded s

/-! ### The laws of what a step, or a byte that completes a frame, closes and grants -/

/-- R132: a swing contactor that closes between the two states finds the other open, and open for the dead time in
force. -/
abbrev DriveLaw (s t : State) : Prop :=
  ∀ d : DriveNo,
    (s.drives[d].fwd.closed = false → t.drives[d].fwd.closed = true →
      t.drives[d].rev.closed = false ∧ t.drives[d].rev.lastOpened + s.drives[d].deadTime ≤ s.timer) ∧
    (s.drives[d].rev.closed = false → t.drives[d].rev.closed = true →
      t.drives[d].fwd.closed = false ∧ t.drives[d].fwd.lastOpened + s.drives[d].deadTime ≤ s.timer)

/-- R167, R169: a flood contactor that closes between the two states has been open for its circuit's restrike delay. -/
abbrev FloodLaw (s t : State) : Prop :=
  ∀ c : CircuitNo, s.circuits[c].contactor = false → t.circuits[c].contactor = true →
    t.circuits[c].lastOpen + (t.circuits[c].restrike : Int) * 60000 ≤ s.timer

/-- R180, R181: a rise of the gate's grants between the two states is by one, now, with SUPPLY LIMIT not asserted and
the stagger interval in force passed since the grant before. -/
abbrev GateLaw (s t : State) : Prop :=
  s.gate.grants < t.gate.grants →
    t.gate.grants = s.gate.grants + 1 ∧ t.gate.lastGrant = some s.timer ∧ t.gate.limit = false ∧
      ∀ g, s.gate.lastGrant = some g → g + s.gate.stagger * 1000 ≤ s.timer

/-- R188: the command in front is a run of bytes, which may complete several frames. -/
abbrev BytesInFront (s : State) : Prop := ∃ n key l r, s.pending.head? = some (.receiveFrame n key l r)

/-! ### How the statements speak of requests and notices -/

/-- R186, R189, R190: the part runs and the link, enabled, has no frame waiting, no reply owed or waiting and an idle
transmitter, so that a frame arriving on it is taken at once and its reply begins at once. -/
abbrev Ready (h : Head) (s : State) : Prop :=
  s.running = true ∧ s.links[h.station].enabled = true ∧ s.links[h.station].waiting = none ∧
    s.links[h.station].tx = none ∧ s.links[h.station].reply = .empty

/-- R186, R190, R193: what every request taken at once leaves beside its own effect: the key sampled, the frame
counted, the reply on the transmitter. -/
def answered (h : Head) (r : Reply) (after : After) (s : State) : State :=
  (s.onPins fun p => { p with installKey := h.key }).onLink h.station fun l =>
    { l with
      counts := { l.counts with received := bump16 l.counts.received }, reply := .empty,
      tx := some (.reply ⟨h.tag, r, after⟩) }

/-- A request answered DONE with result fields and no other effect. -/
def readBack (h : Head) (p : Payload) (s : State) : State := answered h (.done false p) .nothing s

/-- R190: the KINDs without fields, each with the request that it is. -/
def kindsWithoutFields (h : Head) : List (Byte × Instr) :=
  [(0x02#8, .timeRead h), (0x04#8, .dstRuleRead h), (0x05#8, .restart h), (0x06#8, .factoryClear h),
    (0x1A#8, .keepalive h), (0x1C#8, .frameRead h), (0x24#8, .tollStop h), (0x26#8, .strikePlanRead h),
    (0x2A#8, .engineRead h), (0x36#8, .tuneStop h), (0x37#8, .playerRead h), (0x4B#8, .scheduleStatus h),
    (0x53#8, .floodStatus h), (0x57#8, .duskTableRead h), (0x58#8, .gateRead h), (0x62#8, .permitRead h),
    (0x65#8, .watchRead h), (0x66#8, .statusRead h)]

/-- R196: no station watches the target. -/
abbrev Unwatched (t : Target) (s : State) : Prop :=
  ∀ (n : Station) (i : Fin 4), (s.watches[n][i]).map Watch.target ≠ some t

/-- R197: no FIRE watch is on the target, so that only a write of it is told to the stations that watch it. -/
abbrev NoFireWatch (t : Target) (s : State) : Prop := ∀ (n : Station) (i : Fin 4), s.watches[n][i] ≠ some ⟨t, .fire⟩

/-- R90, R113: no toll and no tune waits, so that a change on a bell is tested for no head. -/
abbrev NoHeads (s : State) : Prop := s.tollQueue = [] ∧ s.player.queue = []

/-- R56 case 3, R57: the head of a bell's pending list, a station's claim, is granted: it leaves the list, its station
is the holder, with an IDLE lease started, a jog of another station on the bell's drive ends (R142), and the station
is told BELL GRANTED with the tag of the claim. -/
def headGranted (b : BellNo) (s : State) : State :=
  match s.bells[b].waiting with
  | ⟨.station n, _, _, tag, _⟩ :: rest =>
      notifyOne n (.bellGranted b tag .claim)
        (endLostJog b ((s.onBell b fun x => { x with waiting := rest, holder := .station n, behalf := none }).onLease n
          fun l => if l.lease = .idle then { l with lease := .first (s.timer + 10000) } else l))
  | _ => s

/-- R58: the release of a bell whose last mark has been cleared. -/
def released (b : BellNo) (s : State) : State :=
  if s.bells[b].holder = .clock ∧ s.inSequence b = false then headGranted b s else s

/-- The clearing of a mark of the bell may release it: nothing waits, or a station's claim for a bell in sequence. -/
abbrev MarkHead (b : BellNo) (s : State) : Prop :=
  s.bells[b].waiting = [] ∨
    (s.inSequence b = true ∧ Unwatched (.bell b) s ∧ NoHeads s ∧
      ∃ n : Station, s.bells[b].waiting.head?.map Claim.claimant = some (.station n))

/-- The head of a bell's pending list, if a claim waits, is a station's, and no station watches the bell. -/
abbrev StationHead (b : BellNo) (s : State) : Prop :=
  s.bells[b].waiting = [] ∨
    (Unwatched (.bell b) s ∧ NoHeads s ∧ ∃ n : Station, s.bells[b].waiting.head?.map Claim.claimant = some (.station n))

/-- R56, R58: no claim waits for the bell and no sequence marks it. -/
abbrev Unclaimed (b : BellNo) (s : State) : Prop := s.bells[b].waiting = [] ∧ s.inSequence b = false

/-- R35: the last closure of a dial whose impulse ends in a fault at local time `now`: a closing held by the impulse
is recorded, with the discrepancy of P where P is KNOWN. -/
def heldRecord (x : Dial) (now : DayTime) : Option Closure :=
  if x.heldClosing then
    some ⟨now, if x.known then some (if 2 * x.pos < x.n then (x.pos : Int) else (x.pos : Int) - x.n) else none⟩
  else x.lastClosure

/-- R194, R197: CHANGED, and the hits of CHANGE watches, which name the request, reach every party but the writer. -/
def written (r : WatchedWrite) (n : Station) (item : Item) (t : Target) (s : State) : State :=
  changeWatch t (.written r) (.station n) (announce item (.station n) s)

/-! ### What a stop, a lapse and a missed blow leave -/

/-- R132: what a contactor is once it has been opened at `timer`: one that was open keeps its reading. -/
def openedAt (timer : Nat) (x : Contactor) : Contactor := if x.closed then ⟨false, timer⟩ else x

/-- R138: the cause of an ending swing: one already set stands. -/
def causeOf (c : SwingCause) (x : Drive) : SwingCause := if x.cause = .none then c else x.cause

/-- R138: what a stop with a cause leaves of a drive, by its state, where no claim waits: a grant that waits on a hammer
pulse takes the cause, LIFT and QUEUED go to DROP, KICK, RISE and RINGING to STOPPING, each with both contactors open,
and a swing that is coming to its end goes on. -/
def stoppedSwing (c : SwingCause) (timer : Nat) (x : Drive) : Drive :=
  let y : Drive := { x with cause := causeOf c x }
  let dark : Drive := { y with fwd := openedAt timer x.fwd, rev := openedAt timer x.rev, pulse := none }
  match x.state with
  | .down => if x.grantWaiting then y else x
  | .lift | .queued => { dark with state := .drop, deadline := some (timer + 3000), sensorDeadline := none }
  | .kick | .rise | .ringing => { dark with state := .stopping, deadline := none }
  | .stopping | .settle | .drop => x

/-- R138, R179: a stop has reached the drive, and its request at the gate, if it waited there, is gone. -/
def swingStopped (c : SwingCause) (d : DriveNo) (s : State) : State :=
  (s.onDrive d (stoppedSwing c s.timer)).onGate fun g => { g with
    queue := if s.drives[d].state = .queued then g.queue.filter fun r => r.who ≠ .drive d else g.queue }

/-- R138, R179: the gate grants nothing when the drive's request leaves it: SUPPLY LIMIT holds it, or nobody else waits
at it. -/
abbrev GateHeldFor (d : DriveNo) (s : State) : Prop :=
  s.drives[d].state = .queued → s.gate.limit = true ∨ ∀ r ∈ s.gate.queue, r.who = .drive d

/-- R61, R138, R141: the claim of the drive of bell `b` is withdrawn, and its record cleared. -/
def claimWithdrawn (b : BellNo) (d : DriveNo) (s : State) : State :=
  (s.onBell b fun x => { x with waiting := x.waiting.filter fun c => c.claimant ≠ .swing }).onDrive d fun x => { x with
    claimWaiting := none, cause := .none, source := .none, stopTime := none, pPrev := 400, inBand := 0,
    highestKick := none }

/-- R138, R141: the station that started a swing whose claim, in state `s`, is withdrawn hears that it did not ring. -/
def notRungTold (c : SwingCause) (b : BellNo) (d : DriveNo) (s t : State) : State :=
  match s.drives[d].source with
  | .station n tag =>
      notifyOne n (.complete tag (.swing b (causeOf c s.drives[d]) (s.pins.hammerPos[d] == .engaged) true)) t
  | _ => t

/-- R139 steps 4 to 7: the station of the swing's behalf or the one whose claim waits may stop the swing; another needs
RING, and INSTALL for a swing on a station's behalf. -/
abbrev MayStop (h : Head) (b : BellNo) (d : DriveNo) (s : State) : Prop :=
  (s.bells[b].holder = .swing ∧ s.bells[b].behalf = some h.station) ∨
    (s.drives[d].claimWaiting ≠ none ∧ ∃ tag : Byte, s.drives[d].source = .station h.station tag) ∨
    (s.rights[h.station].ring = true ∧
      (s.bells[b].holder ≠ .swing ∨ s.bells[b].behalf = none ∨ s.rights[h.station].install = true))

/-- R56: the claim that takes a bell which a station lets go: the oldest that waits, for a bell out of sequence. -/
def State.heir (s : State) (b : BellNo) : Option Claim := if s.inSequence b then none else s.bells[b].waiting.head?

/-- R56, R57: who holds a bell that a station has let go. -/
def State.nextHolder (s : State) (b : BellNo) : Holder :=
  match (s.heir b).map Claim.claimant with
  | some (.station m) => .station m
  | some .swing => .swing
  | none => .clock

/-- R64: the station has the bell as the behalf of its swing. -/
abbrev BehalfOf (n : Station) (b : BellNo) (s : State) : Prop :=
  s.bells[b].holder = .swing ∧ s.bells[b].behalf = some n

/-- R64 steps 1 to 3: the bell after the lapse of station `n`. -/
def lapsedBell (n : Station) (b : BellNo) (s : State) : Bell :=
  let x := s.bells[b]
  let y : Bell :=
    if x.holder = .station n then { x with
      holder := s.nextHolder b, behalf := none, waiting := if s.heir b = none then x.waiting else x.waiting.tail }
    else if BehalfOf n b s then { x with behalf := none }
    else x
  { y with waiting := y.waiting.filter fun c => c.claimant ≠ .station n }

/-- R62, R64, R65: the leases after the lapse of station `n`: its own IDLE, the lapse counted and perhaps barred; that
of a station which has got a bell by it begun, if it was IDLE. -/
def lapsedLease (n m : Station) (s : State) : StationLease :=
  let x := s.leases[m]
  let c := min 15 (x.lapses + 1)
  if m = n then ⟨.idle, c, x.barred || (s.frame.barLimit != 0 && decide (s.frame.barLimit ≤ c))⟩
  else if x.lease = .idle ∧ ∃ b : BellNo, s.bells[b].holder = .station n ∧ s.nextHolder b = .station m then
    { x with lease := .first (s.timer + 10000) }
  else x

/-- R142: a jog of a station other than the holder has ended. -/
def jogLost (h : Holder) (timer : Nat) (x : Drive) : Drive :=
  match x.jog with
  | none => x
  | some j =>
      if h = .station j.station then x
      else
        match j.dir with
        | .forward => { x with fwd := openedAt timer x.fwd, jog := none }
        | .reverse => { x with rev := openedAt timer x.rev, jog := none }

/-- R64, R129, R138, R142: the drive of a bell after the lapse of station `n`: a jog on a bell that it held ends, and
where SWING gets that bell the drive goes to LIFT, or waits for the hammer pulse in flight; a swing on its behalf is
stopped. -/
def lapsedDrive (n : Station) (b : BellNo) (s : State) (x : Drive) : Drive :=
  if s.bells[b].holder = .station n then
    let y := jogLost (s.nextHolder b) s.timer x
    if s.nextHolder b = .swing then
      if s.hammers[b].pulse = none then
        { y with claimWaiting := none, state := .lift, deadline := some (s.timer + 3000) }
      else { y with claimWaiting := none, grantWaiting := true }
    else y
  else if BehalfOf n b s then stoppedSwing .lapse s.timer x
  else x

/-- R64: the gate's request that a lapse of station `n` withdraws. -/
abbrev LapseLeaves (n : Station) (s : State) (r : GateReq) : Prop :=
  ∃ (b : BellNo) (d : DriveNo), r.who = .drive d ∧ s.driveOf b = some d ∧ s.drives[d].state = .queued ∧ BehalfOf n b s

/-- R57: the BELL GRANTED notices of the bells that a lapse of station `n` gives to stations, by ascending bell. -/
def lapseGrants (n : Station) (s : State) : List (Station × Notice) :=
  allBells.filterMap fun b =>
    if s.bells[b].holder = .station n then
      match s.heir b with
      | some ⟨.station m, _, _, tag, _⟩ => some (m, .bellGranted b tag .claim)
      | _ => none
    else none

/-- R64 step 4: the BELL TAKEN BACK notices of a lapse of station `n`, by ascending bell (log 56). -/
def takenBackOf (n : Station) (s : State) : List Notice :=
  allBells.filterMap fun b =>
    let had : Option Had :=
      if s.bells[b].holder = .station n then some .held
      else if BehalfOf n b s then some .behalf
      else if s.bells[b].waiting.any fun c => c.claimant == .station n then some .pending
      else none
    had.map fun x => .bellTakenBack b n x (lapsedBell n b s).holder .lapse

/-- R57, R64: the state with the notices of a lapse of station `n` on the links: each bell's new station told, then
every station of every bell taken back. -/
def lapseTold (n : Station) (s : State) : State :=
  (takenBackOf n s).foldl (fun u x => notifyAll x u)
    ((lapseGrants n s).foldl (fun u (p : Station × Notice) => notifyOne p.1 p.2 u) s)

/-- R64, R65: the lapse of station `n` with no head waiting, no bell that it holds watched or claimed by itself, and no
swing on its behalf that claims its bell or leaves a gate free to grant another. -/
abbrev LapsePlain (n : Station) (s : State) : Prop :=
  NoHeads s ∧ BehalfsInOrder s ∧
    ∀ b : BellNo,
      (s.bells[b].holder = .station n →
        Unwatched (.bell b) s ∧ ∀ c ∈ s.bells[b].waiting, c.claimant ≠ .station n) ∧
      (BehalfOf n b s → ∀ d : DriveNo, s.driveOf b = some d →
        (s.drives[d].state = .down → s.drives[d].claimWaiting = none) ∧
          (s.drives[d].state = .queued → s.gate.limit = true))

/-- R64, R65: station `n` of `s` has lapsed in `t`; the links and the inputs are free. -/
abbrev Lapsed (n : Station) (s t : State) : Prop :=
  t = { s with
    bells := t.bells, leases := t.leases, drives := t.drives, gate := t.gate, links := t.links, pins := t.pins } ∧
  (∀ b : BellNo, t.bells[b] = lapsedBell n b s) ∧ (∀ m : Station, t.leases[m] = lapsedLease n m s) ∧
  (∀ (d : DriveNo) (b : BellNo), s.driveOf b = some d → t.drives[d] = lapsedDrive n b s s.drives[d]) ∧
  (∀ d : DriveNo, (∀ b : BellNo, s.driveOf b ≠ some d) → t.drives[d] = s.drives[d]) ∧
  t.gate = { s.gate with queue := s.gate.queue.filter fun r => ¬LapseLeaves n s r }

/-- R94: the source of a test strike, if the window is one's, hears its outcome. -/
def testTold (w : Window) (o : TestOutcome) (s : State) : State :=
  match w.test with
  | some (n, tag) => notifyOne n (.complete tag (.test o)) s
  | none => s

/-- R80: the bell's window `w` has ended in a miss: it is closed and counted, and the third miss in a row puts an OK
hammer at FAULT, with its FAULT before the COMPLETE of a test (log 57). -/
def blowMissed (b : BellNo) (w : Window) (s : State) : State :=
  let missed := if w.counted then bump16 s.counters.bells[b].missed else s.counters.bells[b].missed
  let t := s.onBellCount b fun c => { c with missed := missed }
  testTold w .missed
    (if 2 ≤ s.hammers[b].misses ∧ s.hammers[b].ok = true then
      notifyAll (.fault (.hammer b .misses missed))
        (t.onHammer b fun x => { x with window := none, misses := 3, ok := false, cause := .misses })
    else t.onHammer b fun x => { x with window := none, misses := min 3 (x.misses + 1) })

/-! ### What the other requests and events leave -/

/-- R148: every schedule entry is EMPTY. -/
abbrev Unscheduled (s : State) : Prop := ∀ k : EntryNo, s.entries[k] = none

/-- R175: the evaluation of the flood plan changes no plan-desired level. -/
abbrev PlanSteady (s : State) : Prop := ∀ c : CircuitNo, s.circuits[c].planOn = s.planLevel c

/-- R175: of the state with the new tables, `t`, the plan-desired of circuit `c` alone differs from the one held in
`s`; the circuit is present without a force, unwatched and not in the gate's queue unless it waits, and SUPPLY LIMIT
holds the gate. -/
abbrev Replanned (c : CircuitNo) (s t : State) : Prop :=
  (∀ k : CircuitNo, t.planLevel k = s.circuits[k].planOn ↔ k ≠ c) ∧ s.circuits[c].present = true ∧
    s.circuits[c].force = none ∧ s.gate.limit = true ∧ Unwatched (.circuit c) s ∧
    (s.circuits[c].state = .waiting ∨ ∀ r ∈ s.gate.queue, r.who ≠ .circuit c)

/-- R167, R172, R175: what the change of a circuit's plan-desired leaves, by the state it found, in `u`, of the state
`t` with the new tables. -/
abbrev PlanMoved (c : CircuitNo) (t u : State) : Prop :=
  let x := t.circuits[c]
  let wanted := t.planLevel c
  let dark : CircuitState := if x.delayPassed t.timer then .off else .cooling
  u.floodPlan = t.floodPlan ∧ u.duskTable = t.duskTable ∧ (∀ k : CircuitNo, k ≠ c → u.circuits[k] = t.circuits[k]) ∧
  (wanted = true →
    u.circuits[c] = { x with
      planOn := true,
        state := if x.state = .off then (if x.delayPassed t.timer then .waiting else .cooling) else x.state } ∧
    u.gate.queue =
      if x.state = .off ∧ x.delayPassed t.timer = true then t.gate.queue ++ [⟨.circuit c, t.timer⟩] else t.gate.queue) ∧
  (wanted = false →
    u.circuits[c] = (match x.state with
      | .off | .cooling => { x with planOn := false }
      | .waiting => { x with planOn := false, state := .off }
      | .closing | .on => { x with
          planOn := false, contactor := false, lastOpen := t.timer, fbDeadline := none,
          state := if x.restrike = 0 then .off else .cooling }
      | .fault => { x with planOn := false, cause := .none, fbFrom := t.timer, state := dark }) ∧
    u.gate.queue =
      if x.state = .waiting then t.gate.queue.filter fun r => r.who ≠ .circuit c else t.gate.queue)

/-- R76, R78: the strike list is empty, and a blow of the clock posted now on the bell passes its fit test and then
waits for the bell's recovery. -/
abbrev ClockBlowWaits (b : BellNo) (s : State) : Prop :=
  s.strikes = [] ∧ s.recovered b = false ∧ s.bells[b].present = true ∧ s.hammers[b].fitted = true ∧
    s.hammers[b].ok = true ∧ s.swingOf b = .down ∧ s.engaged b = true ∧ s.bells[b].holder = .clock

/-- R193: the station has INSTALL and INSTALL KEY is asserted. -/
abbrev MayInstall (h : Head) (s : State) : Prop := s.rights[h.station].install = true ∧ h.key = true

/-- What a stop of the part leaves: outputs off, operations and volatile items lost, every setting, retained item and
the time base as they were (the cut of an impulse may count it, R33, R45). -/
abbrev Stopped (s t : State) : Prop :=
  t.tb = s.tb ∧ t.timer = s.timer ∧ t.pending = s.pending ∧ t.pins = s.pins.dark s.circuits ∧
  (∀ d : DialNo, t.dials[d] = { s.dials[d] with
      pos := t.dials[d].pos, lastPol := t.dials[d].lastPol, absent := t.dials[d].absent,
        syncWarn := t.dials[d].syncWarn,
      inFlight := none, lastClosure := none, lastStart := none, expect := .closed, reported := none,
      heldClosing := false, holdBack := false } ∧
    (s.dials[d].inFlight = none → t.dials[d].stored = s.dials[d].stored)) ∧
  (∀ b : BellNo, t.bells[b] = ⟨s.bells[b].present, .clock, none, [], 0⟩ ∧
    t.hammers[b] = { s.hammers[b] with pulse := none, window := none } ∧ t.marks[b] = ⟨false, false, false⟩) ∧
  (∀ n : Station, t.leases[n] = ⟨.idle, 0, false⟩ ∧ t.links[n] = startLink s.linkSettings[n] ∧
    ∀ i : Fin 4, t.watches[n][i] = none) ∧
  t.strikes = [] ∧ t.nextStrike = s.nextStrike ∧ t.hour = idleHour ∧ t.tollQueue = [] ∧ t.toll = none ∧
  t.nextToll = s.nextToll ∧ t.snapshot = none ∧ t.player = startPlayer s.player.waitLimit ∧
  (∀ d : DriveNo, t.drives[d].fwd.closed = false ∧ t.drives[d].rev.closed = false ∧
    t.drives[d] = { s.drives[d] with
      claimWaiting := none, grantWaiting := false, source := .none, stopTime := none, cause := .none, lastDir := none,
      pPrev := 400, fwd := t.drives[d].fwd, rev := t.drives[d].rev, lastPeak := none, inBand := 0, highestKick := none,
      jog := none, skipped := 0, deadline := none, kickRun := 1, kickLen := 0, sensorDeadline := none,
        pulse := none }) ∧
  (∀ c : CircuitNo, t.circuits[c] = { s.circuits[c] with
      state := .off, cause := .none, planOn := false, force := none, contactor := false, fbDeadline := none }) ∧
  t.gate = startGate s.gate.stagger s.gate.limit ∧ t.sched = startSched s.sched.catchUp ∧
  t.counters = s.counters ∧ t.slots = s.slots ∧ t.entries = s.entries ∧ t.windows = s.windows ∧ t.plan = s.plan ∧
  t.frame = s.frame ∧ t.floodPlan = s.floodPlan ∧ t.duskTable = s.duskTable ∧ t.rights = s.rights ∧
  t.linkSettings = s.linkSettings

/-- What a warm start of the stopped part `s` leaves: the retained items as they were, but for a slot that was
LOADING, and in UNSET, or where the start is abandoned, nothing caught up. -/
abbrev WarmStarted (s t : State) : Prop :=
  t.power = ⟨true, false, 0#32⟩ ∧ t.timer = s.timer ∧ t.pending = s.pending ∧ t.rights = s.rights ∧
  t.frame = s.frame ∧ t.plan = s.plan ∧ t.windows = s.windows ∧ t.floodPlan = s.floodPlan ∧
  t.duskTable = s.duskTable ∧ t.tb.date = s.tb.date ∧ t.tb.secs = s.tb.secs ∧ t.tb.ms = s.tb.ms ∧
  t.tb.validity = s.tb.validity ∧ t.tb.rule = s.tb.rule ∧ t.tb.sinceSet = s.tb.sinceSet ∧
  t.tb.summer = decideSummer s.tb.rule s.tb.date (s.tb.secs / 60) ∧ t.tb.lastStart = .warm ∧
  t.tb.lastCheckGood = true ∧
  t.linkSettings = s.linkSettings ∧ t.player.waitLimit = s.player.waitLimit ∧
  t.sched.catchUp = s.sched.catchUp ∧ t.gate.stagger = s.gate.stagger ∧
  (∀ d : DialNo, t.dials[d].stored = s.dials[d].stored) ∧
  (∀ b : BellNo, t.hammers[b].stored = s.hammers[b].stored ∧ t.bells[b].present = s.bells[b].present) ∧
  (∀ d : DriveNo, { t.drives[d].stored with state := .down } = { s.drives[d].stored with state := .down }) ∧
  (∀ c : CircuitNo, t.circuits[c].stored = s.circuits[c].stored) ∧
  (∀ i : SlotNo, t.slots[i] = if s.slots[i].state = .loading then emptySlot else s.slots[i]) ∧
  (∀ n : Station, t.links[n].enabled = s.linkSettings[n] ∧ t.links[n].tx =
    if s.linkSettings[n] = true ∧ s.startCut = false then some (.notice (.timeChanged .warmStart t.tb.info))
    else none) ∧
  (s.tb.validity = .unset ∨ s.startCut = true →
    t.tb.lastSeen = s.tb.lastSeen ∧ t.entries = s.entries ∧ t.counters = s.counters ∧ t.strikes = [] ∧
    (∀ b : BellNo, t.bells[b].holder = (if s.swingOf b = .down then .clock else .swing)) ∧
    (∀ d : DriveNo, t.drives[d].state = (if s.drives[d].state = .down then .down else .settle)))

/-- The state right after a cold start, by the state it began in and whether its check was GOOD: the factory values
everywhere, each dial's first state reported, the TIME CHANGED of the start on every link; in a start that is
abandoned (R19) no dial is decided and nothing is sent. -/
def coldStarted (s : State) : State :=
  { State.reset with
    pending := s.pending, timer := s.timer, power := { s.power with checkDiff := 0#32 }, pins := s.pins,
    nextStrike := s.nextStrike, nextToll := s.nextToll,
    tb := { State.reset.tb with lastCheckGood := s.power.checkDiff == 0#32 },
    dials := if s.startCut then Vector.replicate 4 factoryDial else State.reset.dials,
    links := if s.startCut then Vector.replicate 3 (startLink true) else State.reset.links,
    hammers := Vector.replicate 12 (factoryHammer s.timer), drives := Vector.replicate 6 (factoryDrive s.timer),
    circuits := Vector.replicate 8 (factoryCircuit s.timer),
    gate := { State.reset.gate with limit := s.pins.supplyLimit } }

/-- R76: the strike fits: its bell is present, its hammer fitted and OK, its drive DOWN, its hammer engaged, and the
bell's holder is that of the source. -/
abbrev Fits (x : Strike) (s : State) : Prop :=
  s.bells[x.bell].present = true ∧ s.hammers[x.bell].fitted = true ∧ s.hammers[x.bell].ok = true ∧
    s.swingOf x.bell = .down ∧ s.engaged x.bell = true ∧
    s.bells[x.bell].holder = (match x.source with
      | .hour | .tune _ | .tollEntry _ _ => .clock
      | .tollStation _ n | .hand n _ | .test n _ => .station n)

/-- R79: what a blow that fires leaves of its own: the list without it, its coil energised, its window open on a
hammer with a sensor (`test` names the source of a test strike), commanded raised, and late raised when it is more
than 50 ms late. -/
def blowFired (x : Strike) (test : Option (Station × Byte)) (s : State) : State :=
  { (s.onHammer x.bell fun z => { z with
      lastPulse := s.timer, pulse := some ⟨{ x with fitted := true }, s.timer, z.width⟩,
      window := if z.sensor then some ⟨s.timer, true, test⟩ else z.window }) with strikes := [] }.onBellCount x.bell
    fun c => { c with
      commanded := bump16 c.commanded, late := if x.due + 50 < s.now then bump16 c.late else c.late }

/-- R116: the play after the beginning, at `t`, of its step `x` out of the slot's steps `l`: the step after it, after
the last step of a repeat the first of the next repeat one beat later, and after the last of all none (the indices stay
those of that last step: log 67). -/
def stepAfter (p : Play) (l : List TuneStep) (t : Nat) (x : TuneStep) : Play :=
  let e := t + stepTime p.tempo x.length
  if p.stepIdx + 1 < l.length then { p with stepIdx := p.stepIdx + 1, nextAt := some e }
  else if p.repeatIdx + 1 < p.repeats then
    { p with stepIdx := 0, repeatIdx := p.repeatIdx + 1, nextAt := some (e + stepTime p.tempo 8) }
  else { p with nextAt := none }

/-- R116: the blows of a step in an empty list, in the order of its bells, due at the step's instant. -/
def stepBlows (l : List BellNo) (due : Int) (play : Nat) (s : State) : State :=
  { s with
    strikes := l.zipIdx.map fun q => ⟨s.nextStrike + q.2, q.1, due, .tune play, false⟩,
    nextStrike := s.nextStrike + l.length }

/-- The next blow of a sequence, alone in the list and not due yet. -/
def nextBlow (b : BellNo) (due : Int) (src : StrikeSource) (s : State) : State :=
  { s with strikes := [⟨s.nextStrike, b, due, src, false⟩], nextStrike := s.nextStrike + 1 }

/-- A blow of the hour run waits in the list behind a bell that may not strike yet. -/
def hourBlowWaits (b : BellNo) (due : Int) (s : State) : State :=
  { s with strikes := [⟨s.nextStrike, b, due, .hour, true⟩], nextStrike := s.nextStrike + 1 }

/-- R84: the hour run starts now, by the plan in force (log 54): with hour strike off, or silenced, it ends; past its
late limit, or with its bell absent, it is dropped and counted; else it marks its bell and posts its first blow, which
waits. -/
def hourAtOnce (s : State) : State :=
  let b := s.plan.hourBell
  let ended : State := { s with hour := idleHour }
  if s.plan.hourStrike = false then ended
  else if s.hour.deadline < s.timer ∨ s.bells[b].present = false then
    ended.onCounters fun c => { c with hourDropped := bump16 c.hourDropped }
  else if s.silenced .hours = true then ended
  else
    (hourBlowWaits b s.now (s.onHour fun x => { x with
      state := .striking, awaited := none, bell := some b, count := hourCount s.plan.mode x.boundary, done := 0,
      posted := true, retry := none, lastFired := none, clearAt := none })).onMarks b fun m => { m with hour := true }

/-- Where the hour run, in FOLLOW WAIT, would start and strike now, its first blow waits. -/
abbrev FirstBlowWaits (s : State) : Prop :=
  s.hour.state = .followWait → s.plan.hourStrike = true → s.timer ≤ s.hour.deadline →
    s.bells[s.plan.hourBell].present = true → s.silenced .hours = false → ClockBlowWaits s.plan.hourBell s

/-- R85: the hour run hears the outcome of the request `id`: in FOLLOW WAIT for it, on COMPLETED it goes to GAP where
a gap is set, and otherwise it starts at once; any other outcome is ignored. -/
def followed (id : Nat) (o : TuneOutcome) (s : State) : State :=
  if s.hour.state = .followWait ∧ s.hour.awaited = some id then
    if o = .completed ∧ 0 < s.plan.gap then
      s.onHour fun x => { x with state := .gap, awaited := none, gapEnd := s.timer + s.plan.gap * 1000 }
    else hourAtOnce s
  else s

/-- R119: what the source of a request that never began hears of its outcome: a station COMPLETE with no play, a
quarter its entry of the quarter plan, set at the local time. -/
def heard (r : TuneReq) (o : TuneOutcome) (s : State) : State :=
  match r.source with
  | .station n tag => notifyOne n (.complete tag (.tune o r.slot none)) s
  | .quarter q => s.onPlayer fun p => p.setQuarter q ⟨.ended o, some s.tb.loc⟩
  | .schedule _ => s

/-- R119: a request is abandoned. -/
def tuneAbandoned (r : TuneReq) (s : State) : State :=
  heard r .abandoned (s.onPlayer fun p => { p with counts := { p.counts with abandoned := bump16 p.counts.abandoned } })

/-- The minute of an hour that is the quarter's. -/
def quarterMinute : Quarter → Nat
  | .q15 => 15
  | .q30 => 30
  | .q45 => 45
  | .q00 => 0

/-- R113, R115, R116: the request, the only one, may start now: the player is idle, its source is not silenced, every
bell of its set is with CLOCK, at rest and unclaimed, and its first step `x` finds the strike list empty. -/
abbrev TuneFree (r : TuneReq) (x : TuneStep) (s : State) : Prop :=
  s.player.queue = [] ∧ s.player.play = none ∧ s.strikes = [] ∧
    (∀ b ∈ s.slots[r.slot].bellSet, s.bells[b].holder = .clock ∧ s.swingOf b = .down ∧ s.bells[b].waiting = []) ∧
    s.slots[r.slot].written[0]? = some x ∧ x.bells.length ≤ 32

/-- R115, R116: the request, entered and the only one, has started: its bell set is marked and its first step `x` has
begun. -/
def tuneBegun (r : TuneReq) (x : TuneStep) (s : State) : State :=
  let y := s.slots[r.slot]
  let p : Play := ⟨s.player.nextPlay, r.slot, y.bellSet, y.tempo, r.source, r.repeats, r.follow, r.id, 0, 0,
    some s.timer, s.now, s.timer, ⟨x.bells.length, 0, 0, 0⟩⟩
  (forAll y.bellSet (fun b (u : State) => u.onMarks b fun m => { m with tune := true })
    (stepBlows x.bells s.now p.number s)).onPlayer fun q => { q with
      play := some (stepAfter p y.written s.timer x), nextPlay := (q.nextPlay + 1) % 65536,
      nextId := q.nextId + 1, failing := none, testedLimit := q.waitLimit }

/-- R154: the entry `e` at `k`, alone in the table, without a one-shot date and unwatched, fires at the minute event
of `s`, at a minute that is no quarter, with the flood plan steady. -/
abbrev FiresAlone (k : EntryNo) (e : Entry) (s : State) : Prop :=
  let u : State := { s with tb := s.tb.redecide.see }
  s.minuteDue = true ∧ s.tb.validity ≠ .unset ∧ PlanSteady u ∧ u.tb.loc.minute % 15 ≠ 0 ∧ s.entries[k] = some e ∧
    (∀ i : EntryNo, i ≠ k → s.entries[i] = none) ∧ u.fires e u.tb.loc.date u.tb.loc.minute = true ∧ e.oneShot = none ∧
    Unwatched (.entry k) s

/-- R11, R154: what the minute event leaves of the firing entry and of the schedule's count. -/
def firedAlone (k : EntryNo) (e : Entry) (s : State) : State :=
  let tb := s.tb.redecide.see
  { s with
    tb := tb, entries := put s.entries k (some { e with lastFired := some tb.loc.date }),
    sched := { s.sched with fired := bump16 s.sched.fired } }

end Sys2Proof.Machine
end

