-- ==== Sys2Proof/Certificates/Slice0/Obligations.lean ====
section
/-! DEFINITION. The statements for the provers. Each is a proposition about the model; OBLIGATIONS.json lists them. -/

open Sys2Proof Sys2Proof.Machine

/-! ### The step -/

/-- A step runs the command at the front of the queue, with the rest of the queue left in the state. -/
def Obligations.StepRunsFrontCommand : Prop :=
  ∀ (c : Instr) (rest : List Instr) (s : State), s.pending = c :: rest → step s = exec c { s with pending := rest }

/-- On an empty queue one millisecond passes: the timer and the time base count, and the events that have come due
join the queue (the model's choice, log 1). One millisecond of counting from a real standard instant before the end of
the range moves the tower ms line by one and gives a real standard instant; the since-set count stands in UNSET and
rises otherwise. At a minute boundary not yet seen of a running part the minute event joins the queue, behind a summer
change where the decision differs from the state held, so that the boundary keeps its own event whatever is taken
before them. (That a boundary which changes the season has a minute event in the queue at all, where R10 and R11 give
it none, is log 4's; that it stands behind the change is the order of the queue, log 3.) -/
def Obligations.IdleStepCountsTime : Prop :=
  (∀ s : State, s.pending = [] →
      step s = .next { s with
        timer := s.timer + 1, tb := s.tb.tick,
        pending := dueEvents s.tb.atRangeEnd { s with timer := s.timer + 1, tb := s.tb.tick } }) ∧
  (∀ tb : TimeBase, realDate tb.date = true → tb.secs < 86400 → tb.ms < 1000 → tb.atRangeEnd = false →
      tb.tick.towerMs = tb.towerMs + 1 ∧ realDate tb.tick.date = true ∧ tb.tick.secs < 86400 ∧ tb.tick.ms < 1000 ∧
        tb.tick.sinceSet = (if tb.validity = .unset then tb.sinceSet else tb.sinceSet + 1)) ∧
  (∀ (ended : Bool) (s : State), s.running = true → s.tb.atMinute = true →
      s.tb.lastSeen.stdDate ≠ s.tb.date ∨ s.tb.lastSeen.stdMinute ≠ s.tb.stdMinute →
      ∃ l r : List Instr, dueEvents ended s = l ++ .minuteEvent :: r ∧
        (s.tb.decision ≠ s.tb.summer → .summerChange ∈ l))

/-! ### Reads: what each answers, with nothing else changed -/

/-- TIME READ, DST RULE READ and DIAL READ answer DONE with the fields of R5, R7 and R41 (the elapsed width that DIAL
READ shows in the gap of a recovery pair is the POS pulse's width: log 51). BELL READ, FRAME READ, HAMMER READ, ENGINE
READ, STRIKE PLAN READ and COUNTERS READ answer DONE with the fields of R51, R97, R82 and R96; COUNTERS READ with no
snapshot is refused NO SUCH, and a part above 18 BAD VALUE. (The summer offset that TIME READ gives in WINTER is 0:
log 12; the instants of DST RULE READ while the rule is not enabled are those of the record: log 58; a toll that has
ended is still ENGINE READ's until its mark is cleared: log 17; a remaining time is 0 once its moment has passed: log
61.) -/
def Obligations.TimeDialBellAndHammerReads : Prop :=
  (∀ (h : Head) (s : State), Ready h s →
      exec (.timeRead h) s =
        .next (readBack h
          (.timeRead s.tb.info (weekday s.tb.loc.date) s.tb.offset
            (if s.tb.validity = .unset then 0 else s.tb.sinceSet / 60000) s.tb.lastStart s.tb.lastCheckGood) s) ∧
      exec (.dstRuleRead h) s =
        .next (readBack h
          (.dstRule s.tb.rule (ruleStart s.tb.rule s.tb.date.year) (ruleStop s.tb.rule s.tb.date.year)) s) ∧
      (∀ d : DialNo,
        exec (.dialRead h (d.val + 1)) s =
          .next (readBack h
            (.dialRead s.dials[d] (s.dials[d].inFlight.map fun i => min (s.timer - i.start) i.width)
              (s.dials[d].target s.tb.loc.secs) (s.dials[d].distance s.tb.loc.secs)
              (s.dials[d].stateAt s.tb) (s.dials[d].stops s.tb.validity)
              (if s.dials[d].known then
                some (if s.dials[d].pos = 0 then 43200 else s.dials[d].pos * s.dials[d].step.secs) else none)
              (s.dials[d].expect != .closed)) s)) ∧
      (∀ n : Nat, n = 0 ∨ 4 < n → exec (.dialRead h n) s = .next (answered h (badValue n) .nothing s))) ∧
  (∀ (h : Head) (s : State), Ready h s →
      (∀ b : BellNo,
        exec (.bellRead h (b.val + 1)) s =
          .next (readBack h
            (.bellRead s.bells[b] (s.bells[b].waiting.map fun c => ⟨c, s.timer - c.since⟩) (s.driveOf b) s.marks[b]
              (s.swingOf b)) s) ∧
        exec (.hammerRead h (b.val + 1)) s =
          .next (readBack h
            (.hammerRead s.hammers[b] (s.timer - s.hammers[b].lastPulse) s.hammers[b].pulse.isSome s.marks[b]
              (s.strikes.filter fun x => x.bell == b).length
              ((s.strikes.filter fun x => x.bell == b).head?.map Strike.due)) s)) ∧
      exec (.frameRead h) s =
        .next (readBack h
          (.frameRead (allBells.map fun b => (s.bells[b].holder, s.bells[b].behalf)) s.frame
            (allStations.map s.leaseView)) s) ∧
      exec (.engineRead h) s =
        .next (readBack h
          (.engineRead s.strikes.length s.coils s.hour (s.hour.deadline - s.timer) s.toll
            (s.tollQueue.map fun t => (t, s.timer - t.postTime)) s.plan) s) ∧
      exec (.strikePlanRead h) s = .next (readBack h (.strikePlan s.plan) s) ∧
      (∀ n : Nat, 18 < n → exec (.countersRead h n) s = .next (answered h (badValue n) .nothing s)) ∧
      (∀ n : Nat, n ≤ 18 → s.snapshot = none →
        exec (.countersRead h n) s = .next (answered h (refuse .noSuch) .nothing s)) ∧
      (∀ x : Snapshot, s.snapshot = some x →
        exec (.countersRead h 0) s =
          .next (readBack h
            (.snapshotPart (.engine x.station x.time x.cleared x.counters.hourDropped x.counters.tollsSilenced
              x.counters.tollsAbandoned x.counters.tollsDropped)) s) ∧
        (∀ b : BellNo, exec (.countersRead h (b.val + 1)) s =
          .next (readBack h (.snapshotPart (.bell x.counters.bells[b])) s)) ∧
        (∀ d : DriveNo, exec (.countersRead h (d.val + 13)) s =
          .next (readBack h (.snapshotPart (.drive x.counters.drives[d])) s))))

/-- TUNE READ, PLAYER READ, SWING READ, SCHEDULE READ, SCHEDULE STATUS and QUIET READ answer DONE with the fields of
R108, R120, R144, R151, R162 and R160. (A remaining time is 0 once its moment has passed, but that to a stop time
is negative then: log 61. The indices of a play whose last step has begun: log 67.) -/
def Obligations.TuneSwingAndScheduleReads : Prop :=
  ∀ (h : Head) (s : State), Ready h s →
    (∀ (i : SlotNo) (offset : Nat),
      (s.slots[i].state = .empty → exec (.tuneRead h i.val offset) s = .next (readBack h .tuneEmpty s)) ∧
      (s.slots[i].state ≠ .empty → s.slots[i].count ≤ offset →
        exec (.tuneRead h i.val offset) s = .next (answered h (badValue offset) .nothing s)) ∧
      (s.slots[i].state ≠ .empty → offset < s.slots[i].count →
        exec (.tuneRead h i.val offset) s =
          .next (readBack h
            (.tuneRead s.slots[i].state s.slots[i].name s.slots[i].tempo s.slots[i].count s.slots[i].count
              s.slots[i].loader
              (if s.slots[i].state = .ready then some (s.slots[i].bellSet, s.slots[i].repeatTime) else none)
              (if s.slots[i].state = .loading then
                some ((s.slots[i].steps.filter Option.isNone).length, s.slots[i].loadEnd - s.timer) else none)
              ((s.slots[i].steps.drop offset).take 16)) s))) ∧
    exec (.playerRead h) s =
      .next (readBack h
        (.playerRead
          (s.player.play.map fun x => (x, x.startTimer + s.slots[x.slot].playTime x.repeats - s.timer))
          (s.player.queue.map fun r => (r, s.timer - r.postTime)) s.player.failing s.poolUsed (768 - s.poolUsed)
          s.player.waitLimit s.player.counts s.player.q15 s.player.q30 s.player.q45 s.player.q00) s) ∧
    (∀ d : DriveNo,
      exec (.swingRead h (d.val + 1)) s =
        .next (readBack h
          (.swingRead s.drives[d] s.drives[d].bell.isNone
            (s.drives[d].bell.map fun b => (s.bells[b].holder, s.bells[b].behalf))
            (s.drives[d].deadline.map (· - s.timer)) (s.drives[d].sensorDeadline.map (· - s.timer))
            (s.drives[d].stopTime.map (· - s.now)) s.pins.hammerPos[d]
            (s.drives[d].bell.map fun b => s.hammers[b].ok) s.counters.drives[d]) s)) ∧
    (∀ k : EntryNo,
      exec (.scheduleRead h k.val) s =
        .next (readBack h
          (.entryRead (s.entries[k].map fun e =>
            (e, s.triggerMinute e.trigger s.tb.loc.date, e.applies s.tb.loc.date, !e.unfired s.tb.loc.date))) s)) ∧
    exec (.scheduleStatus h) s =
      .next (readBack h
        (.scheduleStatus s.sched (allEntries.map fun k => entryUse s.entries[k])
          ((allEighths.filter s.inWindow).map fun i => (i, s.windows[i]))) s) ∧
    (∀ i : Fin 8, exec (.quietRead h i.val) s = .next (readBack h (.quietRead s.windows[i] (s.inWindow i)) s))

/-- FLOOD READ, FLOOD STATUS, FLOOD PLAN READ, DUSK TABLE READ and GATE READ answer DONE with the fields of R178,
R175, R173 and R181. PERMIT READ, WATCH READ and STATUS READ answer DONE with the fields of R193, R196 and R198; the
link's received count that STATUS READ shows counts the STATUS READ itself (the model's choice: logs 20 and 21), and
the state that it shows for an absent dial is ABSENT (the model's choice: log 71); the plan entries that FLOOD READ
lists are those that hold plan-desired ON at the present local moment, also before the MINUTE_EVENT of its minute (the
model's choice: log 72). -/
def Obligations.FloodGateAndLinkReads : Prop :=
  (∀ (h : Head) (s : State), Ready h s →
      (∀ c : CircuitNo,
        exec (.floodRead h (c.val + 1)) s =
          .next (readBack h
            (.floodRead s.circuits[c] (!s.circuits[c].present) s.circuits[c].desired (s.circuits[c].restrikeLeft s.timer)
              (s.circuits[c].expiryAt.map (· - s.now)) (s.plansHolding c) s.pins.feedback[c]
              (s.gate.place (.circuit c))) s)) ∧
      exec (.floodStatus h) s =
        .next (readBack h
          (.floodStatus (allCircuits.map fun c => (s.circuits[c].state, s.circuits[c].planOn,
            s.circuits[c].force))) s) ∧
      (∀ i : Fin 16,
        exec (.floodPlanRead h i.val) s =
          .next (readBack h
            (.floodPlan s.floodPlan[i] (s.planMinutes s.floodPlan[i] s.tb.loc.date)
              (s.planMinutes s.floodPlan[i] (prevDate s.tb.loc.date))) s)) ∧
      exec (.duskTableRead h) s =
        .next (readBack h
          (.duskTable s.duskTable.toList (s.stdDusk s.tb.loc.date, s.stdDawn s.tb.loc.date)
            (s.stdDusk s.tb.loc.date + s.noonOffset s.tb.loc.date,
              s.stdDawn s.tb.loc.date + s.noonOffset s.tb.loc.date)) s) ∧
      exec (.gateRead h) s =
        .next (readBack h
          (.gateRead (s.gate.queue.map fun r => (r.who, s.timer - r.since)) s.gate.limit
            (s.gate.lastGrant.map (s.timer - ·)) s.gate.stagger s.gate.grants) s)) ∧
  (∀ (h : Head) (s : State), Ready h s →
      exec (.permitRead h) s = .next (readBack h (.rights s.rights.toList) s) ∧
      exec (.watchRead h) s = .next (readBack h (.watches s.watches[h.station].toList) s) ∧
      exec (.statusRead h) s =
        .next (readBack h
          (.status s.tb.validity s.tb.summer s.tb.lastStart h.key s.gate.limit (s.dials.toList.map dialStatus)
            (s.hammers.toList.map fun x => (x.ok, x.cause)) (s.drives.toList.map Drive.state)
            (s.circuits.toList.map Circuit.state) (s.leases.toList.map fun l => (l.barred, l.lapses))
            s.player.play.isSome s.player.queue.length
            { s.links[h.station].counts with received := bump16 s.links[h.station].counts.received }
            s.links[h.station].notices.length) s))

/-! ### Permissions, identities and values (00_scope 4.3, R22, R191, R193) -/

/-- A station without the TIME, RING, PROGRAM or LIGHT permission is refused NOT PERMITTED, and nothing else changes.
-/
def Obligations.NotPermittedChangesNothing : Prop :=
  ∀ (h : Head) (s : State), Ready h s →
    (s.rights[h.station].time = false → ∀ i : Instr,
      (∃ d n, i = .timeSet h d n) ∨ (∃ r, i = .dstRuleWrite h r) ∨ (∃ d p k q, i = .dialSet h d p k q) ∨
        (∃ d, i = .dialStop h d) ∨ (∃ d, i = .dialRun h d) →
      exec i s = .next (answered h (refuse .notPermitted) .nothing s)) ∧
    (s.rights[h.station].ring = false → ∀ i : Instr,
      (∃ b, i = .bellClaim h b) ∨ (∃ b, i = .hammerClear h b) ∨ (∃ b, i = .hammerTest h b) ∨
        (∃ b d, i = .handStrike h b d) ∨ (∃ b c n, i = .toll h b c n) ∨ i = .tollStop h ∨ (∃ x r, i = .play h x r) ∨
        i = .tuneStop h ∨ i = .countersSnapshot h true →
      exec i s = .next (answered h (refuse .notPermitted) .nothing s)) ∧
    (s.rights[h.station].program = false → ∀ i : Instr,
      (∃ p, i = .strikePlanWrite h p) ∨ (∃ x n a b, i = .tuneBegin h x n a b) ∨ (∃ x o l, i = .tuneSteps h x o l) ∨
        (∃ x, i = .tuneEnd h x) ∨ (∃ x, i = .tuneAbort h x) ∨ (∃ k e, i = .scheduleWrite h k e) ∨
        (∃ k, i = .scheduleDelete h k) ∨ (∃ k w, i = .quietWrite h k w) ∨ (∃ k e, i = .floodPlanWrite h k e) ∨
        (∃ k l, i = .duskTableWrite h k l) →
      exec i s = .next (answered h (refuse .notPermitted) .nothing s)) ∧
    (s.rights[h.station].light = false → ∀ i : Instr,
      (∃ c l e, i = .floodForce h c l e) ∨ (∃ c, i = .floodClear h c) →
      exec i s = .next (answered h (refuse .notPermitted) .nothing s))

/-- RESTART, FACTORY CLEAR, the INSTALL WRITEs, that of an unknown class among them (log 11), and PERMIT WRITE are
refused NOT PERMITTED without INSTALL, and KEY REQUIRED with INSTALL but without the key; nothing else changes. -/
def Obligations.InstallNeedsPermissionAndKey : Prop :=
  ∀ (h : Head) (s : State) (i : Instr), Ready h s →
    i = .restart h ∨ i = .factoryClear h ∨ (∃ d r, i = .installWriteDial h d r) ∨ (∃ b p, i = .installWriteBell h b p) ∨
      (∃ k b, i = .installWriteFrame h k b) ∨ (∃ b r, i = .installWriteHammer h b r) ∨
      (∃ w, i = .installWritePlayer h w) ∨ (∃ d r, i = .installWriteDrive h d r) ∨
      (∃ c, i = .installWriteSchedule h c) ∨ (∃ c r, i = .installWriteCircuit h c r) ∨
      (∃ g, i = .installWriteGate h g) ∨ (∃ l e, i = .installWriteLink h l e) ∨ (∃ n r, i = .permitWrite h n r) ∨
      i = .unknownRequest h 0x60#8 →
    (s.rights[h.station].install = false → exec i s = .next (answered h (refuse .notPermitted) .nothing s)) ∧
    (s.rights[h.station].install = true → h.key = false →
      exec i s = .next (answered h (refuse .keyRequired) .nothing s))

/-- INSTALL WRITE naming the frame settings, the player, the schedule or the gate clamps its values, stores them, and
sends CHANGED to the other stations. INSTALL WRITE naming a bell sets its present field, and is refused BUSY when it
would make absent a present bell that is held, waited for, in sequence or not DOWN; naming a hammer, with no strike
due yet, it stores the clamped record and closes the window of a hammer that loses its sensor; naming a drive it
stores the assigned bell and the clamped settings after ending a jog, and is refused BAD VALUE for a bell of another
drive and BUSY for a change of bell on a drive that is not at rest. (A gate write is no grant test: log 36; the
CHANGED of a bell's write enters before the CHANGE hits of its watchers: log 57. The classes DIAL, CIRCUIT and LINK
have statements of their own; a hammer write while a strike is due is left out.) -/
def Obligations.InstallWrites : Prop :=
  (∀ (h : Head) (s : State), Ready h s → MayInstall h s →
      (∀ k b : Nat,
        exec (.installWriteFrame h k b) s =
          .next (answered h (.done (outside 2 30 k || outside 0 15 b) .none) .nothing
            (announce .frameSettings (.station h.station) { s with frame := ⟨clamp 2 30 k, clamp 0 15 b⟩ }))) ∧
      (∀ w : Nat,
        exec (.installWritePlayer h w) s =
          .next (answered h (.done (outside 10 600 w) .none) .nothing
            (announce .playerSettings (.station h.station)
              (s.onPlayer fun p => { p with waitLimit := clamp 10 600 w })))) ∧
      (∀ c : Nat,
        exec (.installWriteSchedule h c) s =
          .next (answered h (.done (outside 0 60 c) .none) .nothing
            (announce .scheduleSettings (.station h.station)
              (s.onSched fun x => { x with catchUp := clamp 0 60 c })))) ∧
      (∀ g : Nat,
        exec (.installWriteGate h g) s =
          .next (answered h (.done (outside 1 10 g) .none) .nothing
            (announce .gateSettings (.station h.station)
              (s.onGate fun x => { x with stagger := clamp 1 10 g }))))) ∧
  (∀ (h : Head) (s : State), Ready h s → MayInstall h s →
      (∀ (b : BellNo) (p : Bool),
        exec (.installWriteBell h (b.val + 1) p) s =
          .next (if s.bells[b].present = true ∧ p = false ∧
            s.bellIdle b = false then answered h (refuse .busy) .nothing s
            else answered h (.done false .none) .nothing
              (written .installBell h.station (.bellInstall b) (.bell b)
                (s.onBell b fun x => { x with present := p })))) ∧
      (∀ (b : BellNo) (r : HammerInstall), (∀ x ∈ s.strikes, x.fitted = false ∧ s.now < x.due) →
        (∀ w, s.hammers[b].window = some w → w.test = none) →
        let c : HammerInstall :=
          { r with width := clamp 20 250 r.width, recovery := max (clamp 20 250 r.width + 100) (clamp 200 3000 r.recovery) }
        exec (.installWriteHammer h (b.val + 1) r) s =
          .next (answered h (.done (c != r) .none) .nothing
            (announce (.hammerInstall b) (.station h.station)
              (s.onHammer b fun x => { x with
                fitted := r.fitted, sensor := r.sensor, width := c.width, recovery := c.recovery,
                window := if r.sensor then x.window else none })))) ∧
      (∀ (d : DriveNo) (a : Option BellNo) (r : DriveInstall), r.bell = a.map (fun b => b.val + 1) →
        let c : DriveInstall :=
          { r with
            deadTime := clamp 100 1000 r.deadTime, kickTime := clamp 5 60 r.kickTime, target := clamp 30 160 r.target,
            rest := clamp 5 20 r.rest, settle := clamp 10 300 r.settle }
        ((∃ (b : BellNo) (x : DriveNo), a = some b ∧ x ≠ d ∧ s.drives[x].bell = some b) →
          exec (.installWriteDrive h (d.val + 1) r) s = .next (answered h (badValue (r.bell.getD 0)) .nothing s)) ∧
        ((∀ (b : BellNo) (x : DriveNo), a = some b → x ≠ d → s.drives[x].bell ≠ some b) →
          exec (.installWriteDrive h (d.val + 1) r) s =
            .next (if a ≠ s.drives[d].bell ∧ s.drives[d].engagedNow = true then answered h (refuse .busy) .nothing s
              else answered h (.done (c != r) .none) .nothing
                (announce (.driveInstall d) (.station h.station)
                  (s.onDrive d fun x => { x.endJog s.timer with
                    bell := a, deadTime := c.deadTime, kickTime := c.kickTime, target := c.target, rest := c.rest,
                    settle := c.settle, brake := c.brake }))))))

/-- PERMIT WRITE replaces the named station's rights set, unless no station would keep INSTALL on an enabled link;
then it is refused BAD VALUE. INSTALL WRITE naming a link is answered DONE, is stored at once, and takes effect when
the transmitter has sent that reply, on the link that carries it as on another: a disabled link loses its receiver's
frame, its waiting frame, its replies, its notices and its station's watches; an enabled one starts in HUNT. It is
refused BAD VALUE when no station would keep INSTALL on an enabled link. (Which links count as enabled is read from
the stored settings, log 9; a write of yes leaves the receiver of a link that is enabled already as it is, log 64; the
refusals carry the number of the station or link, log 28.) -/
def Obligations.PermissionAndLinkWrites : Prop :=
  (∀ (h : Head) (s : State) (n : Station) (r : Rights), Ready h s → MayInstall h s →
      ((∃ k : Station, (put s.rights n r)[k].install = true ∧ s.storedEnabled k = true) →
        exec (.permitWrite h (n.val + 1) r) s =
          .next (answered h (.done false .none) .nothing
            (announce (.permission n) (.station h.station) { s with rights := put s.rights n r }))) ∧
      ((∀ k : Station, (put s.rights n r)[k].install = true → s.storedEnabled k = false) →
        exec (.permitWrite h (n.val + 1) r) s = .next (answered h (badValue (n.val + 1)) .nothing s))) ∧
  (∀ (s : State) (n : Station) (v : Bool),
      (∀ h : Head, Ready h s → MayInstall h s →
        ((∃ k : Station, s.rights[k].install = true ∧ (if k = n then v else s.storedEnabled k) = true) →
          exec (.installWriteLink h (n.val + 1) v) s =
            .next (answered h (.done false .none) (.setLink n v)
              (announce (.linkSettings n) (.station h.station) { s with linkSettings := put s.linkSettings n v }))) ∧
        ((∀ k : Station, s.rights[k].install = true → (if k = n then v else s.storedEnabled k) = false) →
          exec (.installWriteLink h (n.val + 1) v) s = .next (answered h (badValue (n.val + 1)) .nothing s))) ∧
      (∀ (k : Station) (key : Bool) (tag : Byte) (r : Reply),
        s.links[k].tx = some (.reply ⟨tag, r, .setLink n v⟩) → s.links[k].reply = .empty → s.links[k].notices = [] →
        let l := put s.links k { s.links[k] with tx := none }
        exec (.transmitEnd k key) s =
          .next { s with
            pins := { s.pins with installKey := key },
            links := put l n
              (if v then (if l[n].enabled then l[n] else { l[n] with enabled := true, rx := .hunt })
               else { l[n] with enabled := false, rx := .hunt, waiting := none, reply := .empty, notices := [] }),
            watches := if v then s.watches else put s.watches n (Vector.replicate 4 none) }))

/-! ### The calendar (R8) -/

/-- The calendar of 2000 to 2099: leap years, the lengths of the months, the day count, the weekday, and the day on
which an occurrence of a weekday falls, which has that weekday and lies in its week of the month, LAST in the last
seven days. The dusk/dawn interpolation takes the days left in the month from it. -/
def Obligations.CalendarOfTheCentury : Prop :=
  (∀ y : Nat, leapYear y = true ↔ 4 ∣ y) ∧
  (∀ y : Nat, (List.range 12).map (fun i => monthLength y (i + 1)) =
    [31, if leapYear y then 29 else 28, 31, 30, 31, 30, 31, 31, 30, 31, 30, 31]) ∧
  (∀ d : Date, 2000 ≤ d.year → 1 ≤ d.month → d.month ≤ 12 →
    dayCount d = 365 * (d.year - 2000 : Nat) +
        (((List.range (d.year - 2000)).filter fun k => leapYear (2000 + k)).length : Int) +
        (((List.range (d.month - 1)).map fun k => monthLength d.year (k + 1)).sum : Int) + (d.day : Int) - 1 ∧
      (weekday d : Int) = (6 + dayCount d) % 7) ∧
  weekday ⟨2000, 1, 1⟩ = 6 ∧
  (∀ y m n w : Nat, 2000 ≤ y → 1 ≤ m → m ≤ 12 → 1 ≤ n → n ≤ 4 → w ≤ 6 →
    let x := occurrenceDay y m (.nth n) w
    x = 1 + (w + 7 - weekday ⟨y, m, 1⟩) % 7 + 7 * (n - 1) ∧ weekday ⟨y, m, x⟩ = w ∧ 7 * n < x + 7 ∧ x ≤ 7 * n ∧
      x ≤ 28) ∧
  (∀ y m w : Nat, 2000 ≤ y → 1 ≤ m → m ≤ 12 → w ≤ 6 →
    let l := monthLength y m
    let x := occurrenceDay y m .last w
    x = l - (weekday ⟨y, m, l⟩ + 7 - w) % 7 ∧ weekday ⟨y, m, x⟩ = w ∧ x ≤ l ∧ l < x + 7) ∧
  (∀ (a b : Nat) (d : Date), 16 ≤ d.day →
    let l : Int := monthLength d.year d.month - 15
    interpolate a b d = a + (2 * ((b : Int) - a) * ((d.day : Int) - 16) + l) / (2 * l))

/-! ### Time (01) -/

/-- An accepted TIME SET sets the standard date and seconds of day with the milliseconds 0, sets validity to VALID and
the since-set count to 0, decides the summer state for the new instant with the rule's offset, sets last-minute-seen,
is answered DONE with the new time, and sends TIME CHANGED to every other station. It is a jump: every dial is decided
afresh and every circuit's plan-desired level is that of the new time. The local time left is the
current one, or at a minute boundary whose event the TIME SET comes before, and which is then not reached, the second
before it (log 66). From UNSET, and where the local time carried is the one left, with no schedule entry and no
plan-desired level to change, every due time (a refused post's too), every stop time but one that has ended its swing,
and every minutes expiry moves by the step, and nothing is struck. From a valid time, forward past an hour within the
late limit, with no schedule entry, the hour run starts with that hour's count (a blow that must wait: the bell has
not recovered). Forward within one date, with the clock in range, an entry alone in the table whose minute was passed
over is caught up within the catch-up window and passed beyond it. A date that is no date of
2000 to 2099, or seconds of day above 86399, are refused BAD VALUE with nothing changed (the number that the refusal
carries: log 28; the order in which the blocks act on the jump: log 5; the due time of a refused post: log 32; a stop
time that has ended its swing: log 44; a jump's lateness in whole seconds and its step in milliseconds: log 15). -/
def Obligations.TimeSetSetsTheClock : Prop :=
  ∀ (h : Head) (s : State) (d : Date) (n : Nat), Ready h s → s.rights[h.station].time = true →
    (realDate d = true → n < 86400 →
      ∃ t : State, exec (.timeSet h d n) s = .next t ∧
        t.tb.date = d ∧ t.tb.secs = n ∧ t.tb.ms = 0 ∧ t.tb.validity = .valid ∧ t.tb.sinceSet = 0 ∧
        t.tb.summer = decideSummer s.tb.rule d (n / 60) ∧ t.tb.heldOffset = s.tb.rule.offset ∧ t.tb.rule = s.tb.rule ∧
        t.tb.lastSeen = ⟨t.tb.loc.date, t.tb.loc.minute, d, n / 60⟩ ∧
        t.tb.lastStart = s.tb.lastStart ∧ t.tb.lastCheckGood = s.tb.lastCheckGood ∧
        t.links[h.station].tx = some (.reply ⟨h.tag, .done false (.time t.tb.info), .nothing⟩) ∧
        t.pending = s.pending ∧ t.timer = s.timer ∧ t.power = s.power ∧ t.rights = s.rights ∧
        (∀ k : Station, k ≠ h.station → s.links[k].enabled = true →
          t.links[k].tx = some (.notice (.timeChanged .timeSet t.tb.info)) ∨
            Notice.timeChanged .timeSet t.tb.info ∈ t.links[k].notices) ∧
        (∀ x : DialNo, t.dials[x] = (decideDial x false { s with tb := t.tb }).dials[x]) ∧
        (∀ c : CircuitNo, t.circuits[c].planOn = ({ s with tb := t.tb } : State).planLevel c) ∧
        (s.tb.validity = .unset ∨ t.tb.loc = s.localLeft → Unscheduled s → PlanSteady { s with tb := t.tb } →
          let step := t.tb.towerMs - s.tb.towerMs
          t.strikes = s.strikes.map (fun x => { x with due := x.due + step }) ∧
            t.hour = { s.hour with retry := s.hour.retry.map fun r => { r with due := r.due + step } } ∧
            t.toll = s.toll.map (fun r => { r with retry := r.retry.map fun x => { x with due := x.due + step } }) ∧
            (∀ x : DriveNo, t.drives[x] = if s.drives[x].cause = .ended then s.drives[x] else
              { s.drives[x] with stopTime := s.drives[x].stopTime.map (· + step) }) ∧
            (∀ c : CircuitNo, t.circuits[c].expiryAt = s.circuits[c].expiryAt.map (· + step) ∧
              t.circuits[c].state = s.circuits[c].state ∧ t.circuits[c].contactor = s.circuits[c].contactor)) ∧
        (∀ b : BellNo, s.tb.validity ≠ .unset → Unscheduled s → PlanSteady { s with tb := t.tb } →
          ClockBlowWaits b { s with tb := t.tb } → s.plan.hourBell = b → s.plan.hourStrike = true →
            s.plan.slot00 = none →
          s.hour.state = .idle → ({ s with tb := t.tb } : State).silenced .hours = false →
          let late := t.tb.loc.secs % 3600
          late < 900 → late ≤ s.plan.lateLimit * 60 → s.localLeft.index < t.tb.loc.index - late →
          let boundary := t.tb.loc.secs / 3600 * 60
          t.strikes = [⟨s.nextStrike, b, t.now, .hour, true⟩] ∧ t.marks[b].hour = true ∧
            t.hour.state = .striking ∧ t.hour.bell = some b ∧ t.hour.boundary = boundary ∧
            t.hour.deadline = s.timer + s.plan.lateLimit * 60000 - late * 1000 ∧ t.hour.posted = true ∧ t.hour.done = 0 ∧
            t.hour.count = hourCount s.plan.mode boundary) ∧
        (∀ (k : EntryNo) (e : Entry), ClockInRange s.tb → s.tb.validity ≠ .unset → s.entries[k] = some e →
          (∀ i : EntryNo, i ≠ k → s.entries[i] = none) → t.tb.loc.date = s.localLeft.date →
          let m := ({ s with tb := t.tb } : State).triggerMinute e.trigger t.tb.loc.date
          s.localLeft.minute < m → m < t.tb.loc.minute → e.enabled = true → e.applies t.tb.loc.date = true →
          e.unfired t.tb.loc.date = true →
          t.entries[k] = some { e with lastFired := some t.tb.loc.date, enabled := e.oneShot.isNone } ∧
            t.sched = (if t.tb.loc.minute - s.localLeft.minute ≤ s.sched.catchUp then
                { s.sched with fired := bump16 s.sched.fired }
              else { s.sched with passed := bump16 s.sched.passed }))) ∧
    (realDate d = true → 86400 ≤ n → exec (.timeSet h d n) s = .next (answered h (badValue n) .nothing s)) ∧
    (realDate d = false →
      exec (.timeSet h d n) s = .next (answered h (badValue (badDateValue d)) .nothing s))

/-- An accepted DST RULE WRITE replaces the rule, its minutes and offset clamped and the offset rounded down to a
multiple of 15, and decides the summer state for the present instant; standard time, validity and the since-set count
stand; every other station is sent CHANGED. Where the offset in force stays as it was, local time has not moved:
nothing else changes (with no plan-desired level to change). Where it moves there is one jump with cause RULE CHANGE:
every dial is decided afresh, every circuit's plan-desired level is that of the new time, last-minute-seen is set, and
TIME CHANGED with cause RULE CHANGE goes to all stations, the writer's behind its reply (CHANGED before TIME CHANGED
in the order of R7; stated where nothing is watched, scheduled or struck, since another notice of the jump could
overflow a queue). From a valid time, with the clock in range, an entry alone in the table whose minute was passed over
within one date is caught up within the catch-up window and passed beyond it (a write that comes before the event of a
minute boundary leaves the second before it: log 63). A rule
with a month, an occurrence or a weekday out of range is refused BAD VALUE and changes nothing (the number that the
refusal carries: log 28; the order in which the blocks act on the jump: log 5). -/
def Obligations.RuleWriteReplacesTheRule : Prop :=
  ∀ (h : Head) (s : State) (r : DstRule), Ready h s → s.rights[h.station].time = true →
    (ruleIdentitiesOk r = false →
      exec (.dstRuleWrite h r) s = .next (answered h (badValue (badRuleValue r)) .nothing s)) ∧
    (ruleIdentitiesOk r = true → ∃ t : State, exec (.dstRuleWrite h r) s = .next t ∧
      t.tb.rule = { r with
        startMin := clamp 0 1439 r.startMin, endMin := clamp 0 1439 r.endMin,
          offset := clamp 15 120 r.offset / 15 * 15 } ∧
      t.tb.summer = decideSummer t.tb.rule s.tb.date (s.tb.secs / 60) ∧ t.tb.heldOffset = t.tb.rule.offset ∧
      t.tb.date = s.tb.date ∧ t.tb.secs = s.tb.secs ∧ t.tb.ms = s.tb.ms ∧ t.tb.validity = s.tb.validity ∧
      t.tb.sinceSet = s.tb.sinceSet ∧
      t.links[h.station].tx = some (.reply ⟨h.tag, .done (t.tb.rule != r) .none, .nothing⟩) ∧
      t.pending = s.pending ∧ t.timer = s.timer ∧ t.rights = s.rights ∧ t.power = s.power ∧
      (let told := announce .dstRule (.station h.station)
        (answered h (.done (t.tb.rule != r) .none) .nothing { s with tb := t.tb })
      (t.tb.offset = s.tb.offset → t.tb.lastSeen = s.tb.lastSeen ∧ (PlanSteady { s with tb := t.tb } → t = told)) ∧
      (t.tb.offset ≠ s.tb.offset →
        t.tb.lastSeen = ⟨t.tb.loc.date, t.tb.loc.minute, s.tb.date, s.tb.secs / 60⟩ ∧
        (∀ x : DialNo, t.dials[x] = (decideDial x false { s with tb := t.tb }).dials[x]) ∧
        (∀ c : CircuitNo, t.circuits[c].planOn = ({ s with tb := t.tb } : State).planLevel c) ∧
        (∀ k : Station, s.links[k].enabled = true →
          t.links[k].tx = some (.notice (.timeChanged .ruleChange t.tb.info)) ∨
            Notice.timeChanged .ruleChange t.tb.info ∈ t.links[k].notices) ∧
        ((∀ (n : Station) (i : Fin 4), s.watches[n][i] = none) → Unscheduled s → s.hour.state = .idle →
          s.plan.hourStrike = false → (∀ q : Quarter, s.plan.slotOf q = none) → PlanSteady { s with tb := t.tb } →
          t.links = (notifyAll (.timeChanged .ruleChange t.tb.info) told).links) ∧
        (∀ (k : EntryNo) (e : Entry), ClockInRange s.tb → s.tb.validity ≠ .unset → s.entries[k] = some e →
          (∀ i : EntryNo, i ≠ k → s.entries[i] = none) → t.tb.loc.date = s.localLeft.date →
          let m := ({ s with tb := t.tb } : State).triggerMinute e.trigger t.tb.loc.date
          s.localLeft.minute < m → m < t.tb.loc.minute → e.enabled = true → e.applies t.tb.loc.date = true →
          e.unfired t.tb.loc.date = true →
          t.entries[k] = some { e with lastFired := some t.tb.loc.date, enabled := e.oneShot.isNone } ∧
            t.sched = (if t.tb.loc.minute - s.localLeft.minute ≤ s.sched.catchUp then
                { s.sched with fired := bump16 s.sched.fired }
              else { s.sched with passed := bump16 s.sched.passed })))))

/-- A minute event that is due (log 4) decides the summer state anew with the rule's offset and sets last-minute-seen;
in UNSET it cuts a dial's impulse and decides the dial, and otherwise leaves the dials; the plan-desired level of
every circuit is that of the moment; an entry whose minute it is fires and is marked with the date, a one-shot being
disabled; an enabled one-shot whose date is past is disabled; every other entry stands. An entry with a toll, alone in
the table, hands its toll on behind those that wait. At a minute that is no quarter nothing is struck, nor at :15, :30
and :45 with no slot set or in a window for QUARTERS; at :00 with hour strike on and no tune for it, or such a window,
the hour run starts (a blow that must wait), and with hour strike off the boundary and its late-limit deadline are
noted. (The requests that a quarter with its slot set and a TUNE entry raise are in the statement on PLAY, what a
SWING entry claims in the one on SWING START.) A minute event that is not due changes nothing (log 4). At a standard
minute boundary where the decision differs from the state held, a summer change changes the held state: in a running
part it sets last-minute-seen, is a jump for the dials and the floods, and sends TIME CHANGED to all stations; in a
stopped part nothing else changes. Otherwise it changes nothing (log 4). -/
def Obligations.MinuteAndSummerEvents : Prop :=
  (∀ s : State,
      (s.minuteDue = true → ∃ t : State, exec .minuteEvent s = .next t ∧ t.tb = s.tb.redecide.see ∧
        t.pending = s.pending ∧ t.timer = s.timer ∧ t.power = s.power ∧ t.rights = s.rights ∧
        (∀ d : DialNo, s.dials[d].inFlight = none ∨ s.dials[d].heldClosing = false →
          t.dials[d] = if s.tb.validity = .unset ∧ s.dials[d].present = true then
              (decideDial d s.dials[d].inFlight.isSome { s with
                tb := t.tb, dials := put s.dials d (s.dials[d].cut d s.timer) }).dials[d]
            else s.dials[d]) ∧
        (∀ c : CircuitNo, t.circuits[c].planOn = ({ s with tb := t.tb } : State).planLevel c) ∧
        (∀ k : EntryNo, s.entries[k] = none → t.entries[k] = none) ∧
        (∀ (k : EntryNo) (e : Entry), s.entries[k] = some e →
          let today := t.tb.loc.date
          let fires := ({ s with tb := t.tb } : State).fires e today t.tb.loc.minute
          (s.tb.validity ≠ .unset → fires = true →
            t.entries[k] = some { e with lastFired := some today, enabled := e.oneShot.isNone }) ∧
          (∀ o : Date, e.enabled = true → e.oneShot = some o → dateKey o < dateKey today →
            t.entries[k] = some { e with enabled := false }) ∧
          (e.overdue today = false → s.tb.validity = .unset ∨ fires = false → t.entries[k] = some e))) ∧
      (s.minuteDue = true → s.tb.validity ≠ .unset → PlanSteady { s with tb := s.tb.redecide.see } →
        s.player.queue = [] →
        let u : State := { s with tb := s.tb.redecide.see, player := { s.player with failing := none } }
        let minute := u.tb.loc.minute
        (∀ (k : EntryNo) (e : Entry) (b : BellNo) (c v : Nat), minute % 15 ≠ 0 → s.entries[k] = some e →
          (∀ i : EntryNo, i ≠ k → s.entries[i] = none) → u.fires e u.tb.loc.date minute = true → e.oneShot = none →
          e.action = .toll b c v → s.tollQueue ≠ [] → s.tollQueue.length < 4 → Unwatched (.entry k) s →
          exec .minuteEvent s =
            .next { u with
              entries := put s.entries k (some { e with lastFired := some u.tb.loc.date }),
              sched := { s.sched with fired := bump16 s.sched.fired },
              tollQueue := s.tollQueue ++ [⟨b, c, v, .entry k, s.timer⟩] }) ∧
        (Unscheduled s →
          (minute % 15 ≠ 0 → exec .minuteEvent s = .next u) ∧
          (∀ q : Quarter, q ≠ .q00 → minute % 60 = quarterMinute q →
            s.plan.slotOf q = none ∨ u.silenced .quarters = true → exec .minuteEvent s = .next u) ∧
          (minute % 60 = 0 → s.hour.state = .idle → s.plan.slot00 = none ∨ u.silenced .quarters = true →
            (s.plan.hourStrike = false →
              exec .minuteEvent s =
                .next (u.onHour fun x => { x with
                  boundary := minute, deadline := s.timer + s.plan.lateLimit * 60000 })) ∧
            (∀ b : BellNo, s.plan.hourStrike = true → s.plan.hourBell = b → u.silenced .hours = false →
              ClockBlowWaits b u →
              exec .minuteEvent s =
                .next ((hourBlowWaits b u.now (u.onHour fun x => { x with
                  state := .striking, boundary := minute, deadline := s.timer + s.plan.lateLimit * 60000,
                  awaited := none, bell := some b, count := hourCount s.plan.mode minute, done := 0, posted := true,
                  retry := none, lastFired := none, clearAt := none })).onMarks b fun m => { m with
                    hour := true }))))) ∧
      (s.minuteDue = false → exec .minuteEvent s = .next s)) ∧
  (∀ s : State,
      (s.tb.atMinute = true → s.tb.decision ≠ s.tb.summer → s.running = true →
        ∃ t : State, exec .summerChange s = .next t ∧ t.tb = s.tb.redecide.see ∧ t.tb.summer = s.tb.decision ∧
          t.pending = s.pending ∧ t.timer = s.timer ∧ t.power = s.power ∧ t.rights = s.rights ∧
          (∀ x : DialNo, t.dials[x] = (decideDial x false { s with tb := t.tb }).dials[x]) ∧
          (∀ c : CircuitNo, t.circuits[c].planOn = ({ s with tb := t.tb } : State).planLevel c) ∧
          (∀ k : Station, s.links[k].enabled = true →
            t.links[k].tx = some (.notice (.timeChanged .summerChange t.tb.info)) ∨
              Notice.timeChanged .summerChange t.tb.info ∈ t.links[k].notices)) ∧
      (s.tb.atMinute = true → s.tb.decision ≠ s.tb.summer → s.running = false →
        exec .summerChange s = .next { s with tb := s.tb.redecide }) ∧
      (s.tb.atMinute = false ∨ s.tb.decision = s.tb.summer → exec .summerChange s = .next s))

/-- VALID becomes HOLDOVER when the since-set count has reached 48 h, with a TIME CHANGED to all stations of a running
part; in any other state HOLDOVER changes nothing. At the last millisecond of 2099 the range ends: the standard date
is 2000-01-01, the time 0 and validity UNSET; every due time of a strike, stop time of a drive that has not ended its
swing and minutes expiry of a force moves by what the tower ms line fell, so that each keeps the wait it had; a
running part sends TIME CHANGED with cause RANGE END to all stations; no jump event is issued. (The fall is measured
from the millisecond after the last, log 36; a stop time that has ended its swing stays, log 44; out of its place
neither event does anything, log 4.) -/
def Obligations.HoldoverAndRangeEnd : Prop :=
  (∀ s : State,
      (s.tb.validity = .valid → 172800000 ≤ s.tb.sinceSet →
        exec .holdover s = .next
          (if s.running then
            notifyAll (.timeChanged .holdover ⟨⟨s.tb.date, s.tb.secs⟩, s.tb.loc, s.tb.summer, .holdover⟩)
              { s with tb := { s.tb with validity := .holdover } }
           else { s with tb := { s.tb with validity := .holdover } })) ∧
      (s.tb.validity ≠ .valid ∨ s.tb.sinceSet < 172800000 → exec .holdover s = .next s)) ∧
  (∀ s : State,
      (s.tb.atRangeEnd = true →
        ∃ t : State, exec .rangeEnd s = .next t ∧
          t.tb = { s.tb with
            date := ⟨2000, 1, 1⟩, secs := 0, ms := 0, validity := .unset, sinceSet := 0,
            summer := decideSummer s.tb.rule ⟨2000, 1, 1⟩ 0, heldOffset := s.tb.rule.offset } ∧
          t.strikes = s.strikes.map (fun x => { x with due := x.due - (s.tb.towerMs + 1) }) ∧
          (∀ d : DriveNo, t.drives[d] = if s.drives[d].cause = .ended then s.drives[d] else
            { s.drives[d] with stopTime := s.drives[d].stopTime.map (· - (s.tb.towerMs + 1)) }) ∧
          (∀ c : CircuitNo, t.circuits[c].expiryAt = s.circuits[c].expiryAt.map (· - (s.tb.towerMs + 1)) ∧
            t.circuits[c].state = s.circuits[c].state ∧ t.circuits[c].contactor = s.circuits[c].contactor) ∧
          t.dials = s.dials ∧ t.entries = s.entries ∧ t.pending = s.pending ∧
          t.links = (if s.running then (notifyAll (.timeChanged .rangeEnd t.tb.info) s).links else s.links)) ∧
      (s.tb.atRangeEnd = false → exec .rangeEnd s = .next s))

/-! ### Power, stops and starts (01, 1.9) -/

/-- Mains loss and RESET stop a running part, and change only the power of a part already stopped. The stop cuts
impulses and loses every volatile item; every setting and retained item of every block stands, but for what the cut of
an impulse leaves in its dial (the rows of R33 are in the statement on impulses), and every output is off. (A feedback
input reads absent once its contactor has opened: log 14; a sync closing held during an impulse is dropped at a stop,
so that the cut alone gives the dial's retained fields: log 29; a quarter plan entry that is NONE carries no local
time: log 62. The values that volatile items hold in a stopped part are the model's too, their start values from the
stop on: log 25; so are the other fields of the IDLE hour record, log 40, and those of a kick not in progress, log
23.) -/
def Obligations.StopLosesOperations : Prop :=
  ∀ s : State,
    (s.running = true → ∀ i : Instr, i = .mainsLoss ∨ i = .resetAsserted →
      ∃ t : State, exec i s = .next t ∧ Stopped s t ∧ t.outputs = .off ∧
        (∀ d : DialNo, t.dials[d].stored = (s.dials[d].cut d s.timer).stored) ∧
        t.power = (if i = .mainsLoss then { s.power with mains := false } else { s.power with reset := true })) ∧
    (s.running = false →
      exec .mainsLoss s = .next { s with power := { s.power with mains := false } } ∧
      exec .resetAsserted s = .next { s with power := { s.power with reset := true } })

/-- RESTART and FACTORY CLEAR are answered DONE, and change nothing until that reply has been sent. A start on a BAD
check is cold: every retained item takes its factory default, tower time restarts at 2000-01-01 with validity UNSET,
and TIME CHANGED with cause COLD START goes to every link. So it is at mains return, at RESET release and after the
reply to RESTART, and, whatever the check, after the reply to FACTORY CLEAR. (The start is one command, log 6; the
check is held as its difference from the recomputed one, log 7; the state left is that of log 8; the feedback inputs
read absent after the stop, log 14. A start whose very next command is a stop is abandoned after the factory values:
no dial is decided and no TIME CHANGED sent, log 6; a quarter plan entry that is NONE carries no local time, log 62.)
-/
def Obligations.ColdStartsTakeFactoryDefaults : Prop :=
  (∀ (h : Head) (s : State), Ready h s → MayInstall h s →
      exec (.restart h) s = .next (answered h (.done false .none) .restart s) ∧
      exec (.factoryClear h) s = .next (answered h (.done false .none) .factoryClear s)) ∧
  (∀ s : State,
      (∀ failed : Bool, s.power.mains = false → s.power.reset = false → s.power.checkDiff ≠ 0#32 ∨ failed = true →
        exec (.mainsReturn failed) s =
          .next (coldStarted { s with power := { s.power with mains := true, checkDiff := 1#32 } })) ∧
      (s.power.mains = true → s.power.reset = true → s.power.checkDiff ≠ 0#32 →
        exec .resetReleased s = .next (coldStarted { s with power := { s.power with reset := false } })) ∧
      (∀ (n : Station) (key : Bool) (tag : Byte) (r : Reply),
        s.links[n].tx = some (.reply ⟨tag, r, .factoryClear⟩) →
        exec (.transmitEnd n key) s = .next (coldStarted { s with pins := { s.pins.dark s.circuits with installKey := key } })) ∧
      (∀ (n : Station) (key : Bool) (tag : Byte) (r : Reply),
        s.links[n].tx = some (.reply ⟨tag, r, .restart⟩) → s.power.checkDiff ≠ 0#32 →
        exec (.transmitEnd n key) s = .next (coldStarted { s with pins := { s.pins.dark s.circuits with installKey := key } })))

/-- A start on a GOOD check is warm, at mains return, at RESET release, and after the reply to RESTART, which stops
the part first: standard time, validity, the rule, the since-set count, the permissions, the tables and the settings
and retained fields of every dial, hammer, drive, circuit and link stand, a slot that was LOADING is EMPTY, the summer
state is decided anew, the links are cleared, and TIME CHANGED with cause WARM START goes to every link. In UNSET
nothing is caught up and no counter moves, a bell whose drive was not DOWN is held by SWING and that drive is in
SETTLE; so it is in a start whose very next command is a stop, which is abandoned before its jump and sends no TIME
CHANGED (log 6). A return of mains during RESET, and a release of RESET without mains, start nothing, and a battery
failure leaves the check BAD (log 7); a return of mains that is there and a release of RESET that is not asserted
change nothing (log 4). (The premise is what a stop leaves; that a stopped part keeps it is a statement of its own.
The start is one command, log 6.) -/
def Obligations.WarmStartKeepsTheStore : Prop :=
  ∀ s : State,
    (∀ i : Instr, (i = .mainsReturn false ∧ s.power.mains = false ∧ s.power.reset = false) ∨
        (i = .resetReleased ∧ s.power.mains = true ∧ s.power.reset = true) → s.power.checkDiff = 0#32 → Stopped s s →
      ∃ t : State, exec i s = .next t ∧ WarmStarted s t) ∧
    (∀ (n : Station) (key : Bool) (tag : Byte) (r : Reply), s.running = true →
      s.links[n].tx = some (.reply ⟨tag, r, .restart⟩) → s.power.checkDiff = 0#32 →
      let keyed := s.onPins fun p => { p with installKey := key }
      ∃ u t : State, Stopped keyed u ∧ u.power = s.power ∧ exec (.transmitEnd n key) s = .next t ∧ WarmStarted u t) ∧
    (∀ failed : Bool, s.power.mains = false → s.power.reset = true →
      ∃ c : BitVec 32, (if failed then c ≠ 0#32 else c = s.power.checkDiff) ∧
        exec (.mainsReturn failed) s = .next { s with power := { s.power with mains := true, checkDiff := c } }) ∧
    (s.power.mains = false → s.power.reset = true →
      exec .resetReleased s = .next { s with power := { s.power with reset := false } }) ∧
    (∀ failed : Bool, s.power.mains = true → exec (.mainsReturn failed) s = .next s) ∧
    (s.power.reset = false → exec .resetReleased s = .next s)

/-! ### Dials (02) -/

/-- N, T and D: N is 43200 over the step; for a dial on its face the target and the distance lie in 0 … N − 1, and D
steps forward from P reach T. The state of a present dial: FAULT while it has a fault cause; else STOPPED while a stop
reason holds; else IN STEP at D = 0, CATCHING UP for D below N − L, HOLDING for the rest. -/
def Obligations.DialDistanceAndState : Prop :=
  (∀ (d : Dial) (secs : Nat), d.pos < d.n →
      d.n * d.step.secs = 43200 ∧ d.target secs < d.n ∧ d.distance secs < d.n ∧
        (d.pos + d.distance secs) % d.n = d.target secs ∧
        d.target secs * d.step.secs ≤ secs % 43200 ∧ secs % 43200 < (d.target secs + 1) * d.step.secs) ∧
  (∀ (d : Dial) (tb : TimeBase), d.present = true →
      (d.fault ≠ .none → d.stateAt tb = .fault) ∧
      (d.fault = .none → d.runEnable = false ∨ d.known = false ∨ tb.validity = .unset → d.stateAt tb = .stopped) ∧
      (d.fault = .none → d.runEnable = true → d.known = true → tb.validity ≠ .unset →
        (d.distance tb.loc.secs = 0 → d.stateAt tb = .inStep) ∧
        (1 ≤ d.distance tb.loc.secs → d.distance tb.loc.secs + d.hold * 60 / d.step.secs < d.n →
          d.stateAt tb = .catchingUp) ∧
        (1 ≤ d.distance tb.loc.secs → d.n ≤ d.distance tb.loc.secs + d.hold * 60 / d.step.secs →
          d.stateAt tb = .holding)))

/-- A decision on a present dial that no station watches: the state is reported unless it is the one reported or held
back, and an impulse starts when the dial is CATCHING UP, none is in flight and F has passed since the last start;
nothing else changes. A target increment, and the end of F, each start an impulse on a dial that is CATCHING UP with
none in flight and F passed: a recovery pair's POS pulse when the last polarity is UNKNOWN, else a single impulse of
the polarity opposite to the last. On a dial in any other state the decision starts none, and in a stopped part
neither event does anything. -/
def Obligations.DialDecisionsStartImpulses : Prop :=
  (∀ (d : DialNo) (ended : Bool) (s : State), s.dials[d].present = true → Unwatched (.dial d) s →
      let x := s.dials[d]
      let st := x.stateAt s.tb
      let y : Dial :=
        if x.reported = some st then { x with holdBack := false }
        else if x.holdsBack st (x.distance s.tb.loc.secs) ended then { x with holdBack := true }
        else { x with reported := some st, holdBack := false }
      decideDial d ended s = { s with
        dials := put s.dials d
          (if st = .catchingUp ∧ x.inFlight = none ∧ (∀ t, x.lastStart = some t → t + x.fast * 1000 ≤ s.timer) then
            { y with
              inFlight := some
                ⟨match x.lastPol with | .pos => .single .neg | .neg => .single .pos | .unknown => .pairPos, s.timer,
                  x.width, false⟩,
              lastStart := some s.timer }
           else y) }) ∧
  (∀ (d : DialNo) (s : State) (i : Instr), i = .targetIncrement d ∨ i = .dialFastIntervalEnd d →
      (s.running = true → s.dials[d].stateAt s.tb = .catchingUp → s.dials[d].reported = some .catchingUp →
        s.dials[d].inFlight = none → (∀ t, s.dials[d].lastStart = some t → t + s.dials[d].fast * 1000 ≤ s.timer) →
        exec i s = .next (s.onDial d fun x => { x with
          holdBack := false, lastStart := some s.timer,
          inFlight := some
            ⟨match x.lastPol with | .pos => .single .neg | .neg => .single .pos | .unknown => .pairPos, s.timer,
              x.width,
              false⟩ })) ∧
      (s.running = true → s.dials[d].stateAt s.tb ≠ .catchingUp → s.dials[d].reported = some (s.dials[d].stateAt s.tb) →
        s.dials[d].holdBack = false → exec i s = .next s) ∧
      (s.running = false → exec i s = .next s))

/-- A counted impulse advances P by one modulo N and leaves its polarity; on a dial with a sync contact it opens the
expectation at N - 10 and closes it as P goes from 10 to 11, an unsatisfied one being an absence, of which the second
turns the warning on. An impulse that has run its width: with LOAD reported, a single impulse and the NEG pulse of a
pair are counted, a closing held meanwhile is taken, and the dial is then decided and reported once (the closing
first: log 52); one that this brings into step is quiet again; the POS pulse of a pair leaves the gap. Without LOAD
the dial is at FAULT with cause OPEN, its last polarity UNKNOWN, and FAULT goes to all stations. Before the width has
run nothing changes. The gap of a recovery pair ends F after the POS start with the NEG pulse; LOAD marks the pulse in
flight; SHORT ends it with the dial at FAULT, cause SHORT, last polarity UNKNOWN and a FAULT to all stations; a
closing held by an impulse that ends in a fault is recorded only. None of the four does anything before its time or
out of its place (log 4). What a cut leaves, by the width delivered: less than half, a single impulse nothing, a POS
pulse UNKNOWN and a NEG pulse of a pair POS; half or more with LOAD, the polarity sent, a single impulse and the NEG
pulse counted; the gap POS. Half or more without LOAD is not counted and leaves the polarity sent or UNKNOWN (a free
value: log 29). -/
def Obligations.ImpulsesEndOrFault : Prop :=
  (∀ (x : Dial) (pol : Polarity),
      let p := (x.pos + 1) % x.n
      let closes := x.syncFitted = true ∧ x.pos = 10 ∧ p = 11
      let missed := closes ∧ x.expect = .unsatisfied
      x.counted pol = { x with
        pos := p, lastPol := pol,
        expect := if x.syncFitted = true ∧ p = x.n - 10 then .unsatisfied else if closes then .closed else x.expect,
        absent := if missed then min 2 (x.absent + 1) else x.absent,
        syncWarn := x.syncWarn || decide (missed ∧ 1 ≤ x.absent) }) ∧
  (∀ (d : DialNo) (s : State) (i : Impulse), s.dials[d].present = true → s.dials[d].inFlight = some i →
      (i.start + i.width ≤ s.timer → i.load = true → i.kind = .pairNeg ∨ i.kind = .single .neg ∨ i.kind = .single .pos →
        let y := Dial.counted (if i.kind = .single .pos then .pos else .neg) { s.dials[d] with inFlight := none }
        let u : State := { s with dials := put s.dials d y }
        (s.dials[d].heldClosing = false → exec (.dialImpulseEnd d) s = .next (decideDial d true u)) ∧
        (s.dials[d].heldClosing = true → exec (.dialImpulseEnd d) s = .next (decideDial d true (takeClosing d u))) ∧
        (s.dials[d].heldClosing = false → y.stateAt s.tb = .inStep → s.dials[d].reported = some .inStep →
          exec (.dialImpulseEnd d) s = .next { s with dials := put s.dials d { y with holdBack := false } })) ∧
      (i.start + i.width ≤ s.timer → i.load = true → i.kind = .pairPos →
        exec (.dialImpulseEnd d) s = .next (s.onDial d fun x => { x with inFlight := some { i with kind := .pairGap } })) ∧
      (i.start + i.width ≤ s.timer → i.load = false → i.kind ≠ .pairGap → Unwatched (.dial d) s →
        exec (.dialImpulseEnd d) s =
          .next ((notifyAll (.fault (.dial d .openCircuit s.dials[d].pos)) s).onDial d fun x => { x with
            inFlight := none, fault := .openCircuit, lastPol := .unknown, reported := some .fault, holdBack := false,
            heldClosing := false, lastClosure := heldRecord x s.tb.loc })) ∧
      (s.timer < i.start + i.width → exec (.dialImpulseEnd d) s = .next s)) ∧
  (∀ (d : DialNo) (s : State),
      (∀ i : Impulse, s.dials[d].inFlight = some i →
        (i.kind = .pairGap → i.start + s.dials[d].fast * 1000 ≤ s.timer →
          exec (.pairGapEnd d) s =
            .next (s.onDial d fun x => { x with inFlight := some ⟨.pairNeg, s.timer, x.width, false⟩ })) ∧
        (i.kind ≠ .pairGap ∨ s.timer < i.start + s.dials[d].fast * 1000 → exec (.pairGapEnd d) s = .next s) ∧
        (i.kind ≠ .pairGap →
          exec (.currentSenseLoad d) s = .next (s.onDial d fun x => { x with inFlight := some { i with load := true } })) ∧
        (i.kind ≠ .pairGap → s.dials[d].present = true → Unwatched (.dial d) s →
          exec (.currentSenseShort d) s =
            .next ((notifyAll (.fault (.dial d .short s.dials[d].pos)) s).onDial d fun x => { x with
              inFlight := none, fault := .short, lastPol := .unknown, reported := some .fault, holdBack := false,
              heldClosing := false, lastClosure := heldRecord x s.tb.loc })) ∧
        (i.kind = .pairGap → exec (.currentSenseLoad d) s = .next s ∧ exec (.currentSenseShort d) s = .next s)) ∧
      (s.dials[d].inFlight = none →
        exec (.pairGapEnd d) s = .next s ∧ exec (.currentSenseLoad d) s = .next s ∧
          exec (.currentSenseShort d) s = .next s ∧ exec (.dialImpulseEnd d) s = .next s)) ∧
  (∀ (d : DialNo) (timer : Nat) (x : Dial) (i : Impulse), x.inFlight = some i →
      let y : Dial := { x with inFlight := none }
      let half := i.width ≤ 2 * (timer - i.start)
      let unseen : Polarity → Polarity := fun p => if Config.wouldSeeLoad d.val timer then p else .unknown
      (∀ p : Polarity, i.kind = .single p →
        (¬half → x.cut d timer = y) ∧
        (half → i.load = true → x.cut d timer = y.counted p) ∧
        (half → i.load = false → x.cut d timer = { y with lastPol := unseen p })) ∧
      (i.kind = .pairPos →
        x.cut d timer = { y with lastPol := if ¬half then .unknown else if i.load then .pos else unseen .pos }) ∧
      (i.kind = .pairGap → x.cut d timer = { y with lastPol := .pos }) ∧
      (i.kind = .pairNeg →
        (¬half → x.cut d timer = { y with lastPol := .pos }) ∧
        (half → i.load = true → x.cut d timer = y.counted .neg) ∧
        (half → i.load = false → x.cut d timer = { y with lastPol := unseen .neg })))

/-- A closing that is taken is recorded with the local time and, with P KNOWN, its discrepancy, P modulo N brought
into -N/2 to N/2 - 1. On an absent dial, and on one at FAULT, STOPPED or with P UNKNOWN, it is recorded only. In every
other state, within ten steps it satisfies an open expectation, sets the absences to 0 and clears the warning; a
discrepancy from 1 to 10 steps then sets P to 0, with auto-correct on, a change that the part has written for CHANGE
watches, and with it off changes nothing more; beyond ten steps it puts the dial at FAULT with cause SYNC, carrying
the discrepancy to all stations. A closing on a running part's dial with a contact and no impulse in flight is taken,
and the dial is decided; one during an impulse is held, a further one joining it (log 59), also by an impulse that has
begun in the step of the end of a recovery pair which the closing meets (the model's choice: log 69); one on a dial with
no sync contact, or in a stopped part, changes nothing. (The FAULT enters before the FIRE hits of a watched dial: log
57.) -/
def Obligations.SyncClosingIsJudged : Prop :=
  (∀ (d : DialNo) (s : State),
      let x := s.dials[d]
      let v : Int := if 2 * x.pos < x.n then x.pos else (x.pos : Int) - x.n
      let y : Dial := { x with lastClosure := some ⟨s.tb.loc, if x.known then some v else none⟩, heldClosing := false }
      let near : Dial := { y with
        absent := 0, syncWarn := false, expect := if x.expect = .closed then .closed else .satisfied }
      (x.present = false ∨ x.stateAt s.tb = .fault ∨ x.stateAt s.tb = .stopped ∨ x.known = false →
        takeClosing d s = { s with dials := put s.dials d y }) ∧
      (x.present = true → x.stateAt s.tb = .inStep ∨ x.stateAt s.tb = .catchingUp ∨ x.stateAt s.tb = .holding →
        (-10 ≤ v → v ≤ 10 → v = 0 ∨ x.autoCorrect = false →
          takeClosing d s = { s with dials := put s.dials d near }) ∧
        (-10 ≤ v → v ≤ 10 → v ≠ 0 → x.autoCorrect = true →
          takeClosing d s =
            changeWatch (.dial d) .corrected .part { s with dials := put s.dials d { near with pos := 0 } }) ∧
        (v < -10 ∨ 10 < v →
          takeClosing d s =
            notifyAll (.fault (.dial d .sync v)) { s with dials := put s.dials d { y with fault := .sync } }))) ∧
  (∀ (d : DialNo) (s : State),
    (s.running = true → s.dials[d].syncFitted = true → s.dials[d].inFlight = none →
      exec (.syncClosing d) s = .next (decideDial d false (takeClosing d s))) ∧
    (s.running = true → s.dials[d].present = true → s.dials[d].syncFitted = true → s.dials[d].inFlight = none →
      s.dials[d].known = true → Unwatched (.dial d) s → s.dials[d].stateAt s.tb = .inStep →
      s.dials[d].reported = some .inStep →
      (s.dials[d].pos = 0 →
        exec (.syncClosing d) s = .next (s.onDial d fun x => { x with
          lastClosure := some ⟨s.tb.loc, some 0⟩, heldClosing := false, absent := 0, syncWarn := false,
            holdBack := false,
          expect := if x.expect = .closed then .closed else .satisfied })) ∧
      (10 < s.dials[d].pos → s.dials[d].pos + 10 < s.dials[d].n →
        let v : Int := if 2 * s.dials[d].pos < s.dials[d].n then s.dials[d].pos else (s.dials[d].pos : Int) - s.dials[d].n
        exec (.syncClosing d) s = .next ((notifyAll (.fault (.dial d .sync v)) s).onDial d fun x => { x with
          lastClosure := some ⟨s.tb.loc, some v⟩, heldClosing := false, fault := .sync, reported := some .fault,
          holdBack := false }))) ∧
    (s.running = true → s.dials[d].syncFitted = true → s.dials[d].inFlight ≠ none →
      exec (.syncClosing d) s = .next (s.onDial d fun x => { x with heldClosing := true })) ∧
    (s.running = false ∨ s.dials[d].syncFitted = false → exec (.syncClosing d) s = .next s))

/-- DIAL SET, DIAL STOP, DIAL RUN and INSTALL WRITE naming a dial, on a present dial that no FIRE watch is on, set
their fields and then decide the dial; SET, STOP and the install first cut an impulse in flight (with no closing held;
what a cut leaves is in the statement on impulses); SET refuses a position outside 0 … N − 1 with BAD VALUE, STOP of a
stopped dial and RUN of a running dial without fault change nothing, and SET, STOP and RUN of an absent dial are
refused NO SUCH. The state each reply carries is that of the dial after the request. The other stations are sent
CHANGED and, where they hold a CHANGE watch on the dial, a hit that names the request. (That a STOP or RUN which
changes nothing sends no CHANGED, where section 2.6 gives each accepted one a CHANGED, is log 60; a cut is the end of
the answering impulse, so that a report held back is given: log 34.) -/
def Obligations.DialRequests : Prop :=
  ∀ (h : Head) (d : DialNo) (s : State), Ready h s →
    let busy := s.dials[d].inFlight.isSome
    let cut := s.dials[d].cut d s.timer
    (s.rights[h.station].time = true → s.dials[d].present = false → ∀ (p : Nat) (k : Bool) (q : Option Polarity),
      exec (.dialSet h (d.val + 1) p k q) s = .next (answered h (refuse .noSuch) .nothing s) ∧
      exec (.dialStop h (d.val + 1)) s = .next (answered h (refuse .noSuch) .nothing s) ∧
      exec (.dialRun h (d.val + 1)) s = .next (answered h (refuse .noSuch) .nothing s)) ∧
    (s.rights[h.station].time = true → s.dials[d].present = true → s.dials[d].inFlight = none ∨
      s.dials[d].heldClosing = false → NoFireWatch (.dial d) s →
      (∀ (p : Nat) (k : Bool) (q : Option Polarity),
        (s.dials[d].n ≤ p → exec (.dialSet h (d.val + 1) p k q) s = .next (answered h (badValue p) .nothing s)) ∧
        (p < s.dials[d].n →
          let x : Dial := { cut with
            pos := p, known := k, lastPol := q.getD cut.lastPol,
            expect := if p ≤ 10 ∨ cut.n - 10 ≤ p then cut.expect else .closed }
          let t := decideDial d busy { s with dials := put s.dials d x }
          exec (.dialSet h (d.val + 1) p k q) s =
            .next (answered h
              (.done false (.dialSet p (x.target s.tb.loc.secs) (x.distance s.tb.loc.secs) (x.stateAt s.tb)
                (x.stops s.tb.validity))) .nothing (written .dialSet h.station (.dial d) (.dial d) t)))) ∧
      (s.dials[d].runEnable = true →
        let x : Dial := { cut with runEnable := false }
        exec (.dialStop h (d.val + 1)) s =
          .next (answered h
            (.done false (.dialStop (if x.fault = .none then .stopped else .fault) x.pos x.lastPol)) .nothing
            (written .dialStop h.station (.dial d) (.dial d)
              (decideDial d busy { s with dials := put s.dials d x })))) ∧
      (s.dials[d].runEnable = false →
        exec (.dialStop h (d.val + 1)) s =
          .next (readBack h (.dialStop (s.dials[d].stateAt s.tb) s.dials[d].pos s.dials[d].lastPol) s)) ∧
      (s.dials[d].runEnable = false ∨ s.dials[d].fault ≠ .none →
        let x : Dial := { s.dials[d] with runEnable := true, fault := .none }
        exec (.dialRun h (d.val + 1)) s =
          .next (answered h (.done false (.dialRun (x.stateAt s.tb) (x.stops s.tb.validity))) .nothing
            (written .dialRun h.station (.dial d) (.dial d)
              (decideDial d false { s with dials := put s.dials d x })))) ∧
      (s.dials[d].runEnable = true → s.dials[d].fault = .none →
        exec (.dialRun h (d.val + 1)) s =
          .next (readBack h (.dialRun (s.dials[d].stateAt s.tb) (s.dials[d].stops s.tb.validity)) s))) ∧
    (MayInstall h s → s.dials[d].inFlight = none ∨ s.dials[d].heldClosing = false → NoFireWatch (.dial d) s →
      ∀ r : DialInstall,
      (r.step ≠ 30 → r.step ≠ 60 →
        exec (.installWriteDial h (d.val + 1) r) s = .next (answered h (badValue r.step) .nothing s)) ∧
      (∀ st : DialStep, r.step = st.secs →
        let f := clamp 1 10 r.fast
        let w := if clamp 100 1000 r.width < f * 1000 then clamp 100 1000 r.width else f * 1000 - 100
        let c : DialInstall := { r with width := w, fast := f, hold := clamp 0 360 r.hold }
        let same := cut.step = st
        let x : Dial := { cut with
          present := r.present, step := st, syncFitted := r.syncFitted, autoCorrect := r.autoCorrect, width := w,
            fast := f,
          hold := clamp 0 360 r.hold, pos := if same then cut.pos else 0,
          known := if same then cut.known else false,
          expect := if same ∧ r.present = true ∧ r.syncFitted = true then cut.expect else .closed,
          absent := if r.syncFitted then cut.absent else 0,
          syncWarn := if r.syncFitted then cut.syncWarn else false }
        exec (.installWriteDial h (d.val + 1) r) s =
          .next (answered h (.done (c != r) .none) .nothing
            (decideDial d busy
              (written .installDial h.station (.dialInstall d) (.dial d) { s with dials := put s.dials d x })))))

/-! ### The bell frame (03) -/

/-- BELL CLAIM of a bell held by CLOCK: out of sequence it is granted, DONE, and starts an IDLE lease; in sequence it
waits at the end of the pending list, PENDING with its place, and so does a claim of a bell held by SWING on no
station's or on another station's behalf; a claim that waits already keeps its place. A bell that another station
holds is refused OWNED with that station, the claimant's own bell is DONE at once, one that swings on its behalf BUSY,
an absent bell NO SUCH and a barred station BARRED. (The origin that a waiting claim records is the claimant: log 37.)
-/
def Obligations.BellClaimByHolder : Prop :=
  ∀ (h : Head) (b : BellNo) (s : State), Ready h s → s.rights[h.station].ring = true →
    let pends := (s.bells[b].holder = .clock ∧ s.inSequence b = true) ∨
      (s.bells[b].holder = .swing ∧ s.bells[b].behalf ≠ some h.station)
    (s.bells[b].present = false → exec (.bellClaim h (b.val + 1)) s = .next (answered h (refuse .noSuch) .nothing s)) ∧
    (s.bells[b].present = true → s.leases[h.station].barred = true →
      exec (.bellClaim h (b.val + 1)) s = .next (answered h (refuse .barred) .nothing s)) ∧
    (s.bells[b].present = true → s.leases[h.station].barred = false →
      (s.bells[b].holder = .clock → s.inSequence b = false → NoHeads s → Unwatched (.bell b) s →
        exec (.bellClaim h (b.val + 1)) s =
          .next (answered h (.done false .none) .nothing
            (endLostJog b ((s.onBell b fun x => { x with holder := .station h.station, behalf := none }).onLease h.station
              fun l => if l.lease = .idle then { l with lease := .first (s.timer + 10000) } else l)))) ∧
      (pends → NoHeads s → (∀ c ∈ s.bells[b].waiting, c.claimant ≠ .station h.station) →
        exec (.bellClaim h (b.val + 1)) s =
          .next (answered h (.pending false (s.bells[b].waiting.length + 1)) .nothing
            (s.onBell b fun x => { x with
              waiting := x.waiting ++ [⟨.station h.station, .station h.station, none, some h.tag, s.timer⟩] }))) ∧
      (∀ (l r : List Claim) (c : Claim), pends →
        s.bells[b].waiting = l ++ c :: r → c.claimant = .station h.station → (∀ x ∈ l,
          x.claimant ≠ .station h.station) →
        exec (.bellClaim h (b.val + 1)) s = .next (answered h (.pending false (l.length + 1)) .nothing s)) ∧
      (s.bells[b].holder = .station h.station →
        exec (.bellClaim h (b.val + 1)) s = .next (answered h (.done false .none) .nothing s)) ∧
      (∀ n : Station, n ≠ h.station → s.bells[b].holder = .station n →
        exec (.bellClaim h (b.val + 1)) s = .next (answered h (.refused .owned (.station n)) .nothing s)) ∧
      (s.bells[b].holder = .swing → s.bells[b].behalf = some h.station →
        exec (.bellClaim h (b.val + 1)) s = .next (answered h (refuse .busy) .nothing s)))

/-- RELEASE of a held bell returns it to CLOCK where nothing waits for it or a sequence marks it, and otherwise grants
the head of its pending list: a station's claim makes that station the holder with BELL GRANTED, its tag and cause
CLAIM, and a SWING claim takes the drive to LIFT, or lets the grant wait for a hammer pulse. It is answered DONE with
the new holder and ends the lease of a station left with no bell. RELEASE of a waiting claim removes the claim; of a
behalf, sets the behalf to none and the swing goes on; with nothing on the bell it is refused NOT OWNER. A bell that
passes from the station of a jog ends that jog, and leaves a drive without one as it was. -/
def Obligations.ReleaseByWhatTheStationHas : Prop :=
  (∀ (h : Head) (b : BellNo) (s : State), Ready h s → s.bells[b].present = true → NoHeads s →
    (s.bells[b].holder = .station h.station → s.bells[b].behalf = none → Unwatched (.bell b) s →
      (∀ c ∈ s.bells[b].waiting, c.claimant ≠ .station h.station) →
      let ended := fun u : State => if u.holdsAny h.station then u else u.onLease h.station fun l => { l with lease := .idle }
      (s.bells[b].waiting = [] ∨ s.inSequence b = true →
        exec (.release h (b.val + 1)) s =
          .next (answered h (.done false (.holder .clock)) .nothing
            (ended (endLostJog b (s.onBell b fun x => { x with holder := .clock }))))) ∧
      (∀ n : Station, s.inSequence b = false → s.bells[b].waiting.head?.map Claim.claimant = some (.station n) →
        exec (.release h (b.val + 1)) s =
          .next (answered h (.done false (.holder (.station n))) .nothing (ended (headGranted b s)))) ∧
      (∀ (c : Claim) (l : List Claim) (d : DriveNo), s.inSequence b = false → s.bells[b].waiting = c :: l →
        c.claimant = .swing → s.driveOf b = some d → s.drives[d].bell = some b →
        ∃ t : State, exec (.release h (b.val + 1)) s = .next t ∧
          t.bells[b] = { s.bells[b] with holder := .swing, behalf := c.behalf, waiting := l } ∧
          t.links[h.station].tx = some (.reply ⟨h.tag, .done false (.holder .swing), .nothing⟩) ∧
          t.drives[d].jog = none ∧ t.drives[d].claimWaiting = none ∧
          (s.hammers[b].pulse = none →
            t.drives[d].state = .lift ∧ t.drives[d].deadline = some (s.timer + 3000)) ∧
          (s.hammers[b].pulse ≠ none →
            t.drives[d].state = s.drives[d].state ∧ t.drives[d].grantWaiting = true))) ∧
    (∀ c ∈ s.bells[b].waiting, c.claimant = .station h.station →
      exec (.release h (b.val + 1)) s =
        .next (answered h (.done false .none) .nothing
          (s.onBell b fun x => { x with waiting := x.waiting.filter fun y => y.claimant != .station h.station }))) ∧
    (s.bells[b].holder = .swing → s.bells[b].behalf = some h.station →
      (∀ c ∈ s.bells[b].waiting, c.claimant ≠ .station h.station) →
      let t := s.onBell b fun x => { x with behalf := none }
      exec (.release h (b.val + 1)) s =
        .next (answered h (.done false .none) .nothing
          (if t.holdsAny h.station then t else t.onLease h.station fun l => { l with lease := .idle }))) ∧
    (s.bells[b].holder ≠ .station h.station → s.bells[b].behalf ≠ some h.station →
      (∀ c ∈ s.bells[b].waiting, c.claimant ≠ .station h.station) →
      exec (.release h (b.val + 1)) s = .next (answered h (refuse .notOwner) .nothing s))) ∧
  (∀ (b : BellNo) (s : State),
    (s.driveOf b = none → endLostJog b s = s) ∧
    (∀ d : DriveNo, s.driveOf b = some d →
      (s.drives[d].jog = none → endLostJog b s = s) ∧
      (∀ j : Jog, s.drives[d].jog = some j →
        (s.bells[b].holder = .station j.station → endLostJog b s = s) ∧
        (s.bells[b].holder ≠ .station j.station →
          endLostJog b s = (s.onDrive d fun x => match j.dir with
            | .forward => { x with jog := none, fwd := if x.fwd.closed then ⟨false, s.timer⟩ else x.fwd }
            | .reverse => { x with jog := none, rev := if x.rev.closed then ⟨false, s.timer⟩ else x.rev })))))

/-- KEEPALIVE: IDLE with no lease; in the first allowance, and from the window's opening on, it opens the next window
250 ms on with the deadline KEEP_MAX on, and clears the lapse count. A lapse of a station, at the deadline or at a
KEEPALIVE before the window opens: each bell that it holds goes to the claim that has waited longest, out of sequence,
and else to CLOCK (a station's lease begins, if it was IDLE; SWING's drive goes to LIFT, or waits for the hammer pulse
in flight), a jog of the station on it ending; each bell that swings on its behalf loses the behalf, its swing stopped
with cause LAPSE; its own claims leave the lists; BELL GRANTED to each new station, then BELL TAKEN BACK to all stations
for each bell, ascending (the order of the notices: log 56); the lease is IDLE, the lapse count rises to at most 15, and
the station is barred when the count has reached a limit that is not 0. (No head waits, no bell that it holds is
watched, and SUPPLY LIMIT holds the gate where a swing that is stopped has waited for it.) A KEEPALIVE is judged by the
window's opening alone, since the lapse at the deadline comes at its own millisecond (log 31); a deadline that has not
come changes nothing (log 4). -/
def Obligations.KeepalivesAndLapses : Prop :=
  (∀ (h : Head) (s : State), Ready h s →
      (s.leases[h.station].lease = .idle → exec (.keepalive h) s = .next (readBack h (.lease .idle) s)) ∧
      ((∃ d, s.leases[h.station].lease = .first d) ∨
          (∃ o d, s.leases[h.station].lease = .running o d ∧ o ≤ s.timer) →
        exec (.keepalive h) s =
          .next (readBack h (.lease (.held (s.timer + s.frame.keepMax * 1000)))
            (s.onLease h.station fun l => { l with
              lease := .running (s.timer + 250) (s.timer + s.frame.keepMax * 1000), lapses := 0 })))) ∧
  (∀ (n : Station) (s : State),
      (LapsePlain n s →
        (∀ d, s.leases[n].lease = .first d ∨ (∃ o, s.leases[n].lease = .running o d) → d ≤ s.timer →
          ∃ t : State, exec (.leaseDeadline n) s = .next t ∧ Lapsed n s t ∧ t.pins = s.pins ∧
            t.links = (lapseTold n s).links) ∧
        (∀ (h : Head) (o d : Nat), h.station = n → Ready h s → s.leases[n].lease = .running o d → s.timer < o →
          s.links[n].notices = [] →
          ∃ t : State, exec (.keepalive h) s = .next t ∧ Lapsed n s t ∧
            t.pins = { s.pins with installKey := h.key } ∧
            (∀ m : Station, m ≠ n → t.links[m] = (lapseTold n s).links[m]) ∧
            t.links[n] = { s.links[n] with
              counts := { s.links[n].counts with received := bump16 s.links[n].counts.received },
              tx := some (.reply ⟨h.tag, .done false (.lease .lapsed), .nothing⟩), notices := takenBackOf n s })) ∧
      (s.leases[n].lease = .idle ∨ (∃ d, s.leases[n].lease = .first d ∧ s.timer < d) ∨
          (∃ o d, s.leases[n].lease = .running o d ∧ s.timer < d) →
        exec (.leaseDeadline n) s = .next s))

/-- STATION UNBAR: a station without INSTALL is refused NOT PERMITTED, a number outside 1 to 3 BAD VALUE; accepted,
with the key or without it, it lifts the bar and sets the lapse count to 0, is answered DONE, and every other station,
the named one among them, is sent CHANGED for the named station's state. -/
def Obligations.StationUnbarClears : Prop :=
  ∀ (h : Head) (s : State), Ready h s →
    (s.rights[h.station].install = false → ∀ n : Nat,
      exec (.stationUnbar h n) s = .next (answered h (refuse .notPermitted) .nothing s)) ∧
    (s.rights[h.station].install = true →
      (∀ n : Nat, n = 0 ∨ 3 < n → exec (.stationUnbar h n) s = .next (answered h (badValue n) .nothing s)) ∧
      (∀ n : Station,
        exec (.stationUnbar h (n.val + 1)) s =
          .next (answered h (.done false .none) .nothing
            (announce (.stationState n) (.station h.station)
              (s.onLease n fun l => { l with lapses := 0, barred := false })))))

/-! ### The hammer engine (04) -/

/-- A post keeps the strike list ordered by due time, behind the strikes of an equal due time, and loses none. -/
def Obligations.PostsKeepTheListInOrder : Prop :=
  ∀ (x : Strike) (l : List Strike), l.Pairwise (fun a b => a.due ≤ b.due) →
    (insertStrike x l).Pairwise (fun a b => a.due ≤ b.due) ∧ (insertStrike x l).Perm (x :: l) ∧
      ∃ front back, insertStrike x l = front ++ x :: back ∧ l = front ++ back ∧ (∀ y ∈ front, y.due ≤ x.due) ∧
        ∀ y ∈ back, x.due < y.due

/-- A strike that is due, alone in the list, on an OK and fitted hammer of a present bell with its drive DOWN and its
hammer engaged, whose holder fits the source: with a coil free and the recovery passed it fires — it leaves the list,
its coil is energised, its window opens on a hammer with a sensor, commanded rises, and late rises when the blow is
more than 50 ms late. If the fit test fails it leaves the list counted withheld and nothing is energised. Its source
hears of it: a hand strike's nothing; a tune's play counts it fired or withheld; a test's station is told NO SENSOR or
WITHHELD; the hour run and a toll count the blow done and post the next one their interval after this moment, and
after the last blow that fired keep their mark until the recovery has passed. (No station watches the bell.) The
arbiter's choice is the ready strike of the earliest due time, then the lowest bell, then the first posted; of two
ready strikes with one coil free it fires the one, and the other waits. -/
def Obligations.DueStrikeFiresOrIsWithheld : Prop :=
  (∀ (s : State) (x : Strike) (i : Instr), s.running = true → s.strikes = [x] → x.due ≤ s.now →
    Unwatched (.bell x.bell) s → i = .strikeDue ∨ (i = .hammerRecoveryEnd x.bell) → s.recovered x.bell = true →
    (s.coils < 3 → Fits x s →
      (∀ (n : Station) (tag : Byte), x.source = .hand n tag → exec i s = .next (blowFired x none s)) ∧
      (∀ (n : Station) (tag : Byte), x.source = .test n tag →
        exec i s = .next (if s.hammers[x.bell].sensor then blowFired x (some (n, tag)) s
          else notifyOne n (.complete tag (.test .noSensor)) (blowFired x none s))) ∧
      (∀ p : Play, x.source = .tune p.number → s.player.play = some p →
        exec i s = .next ((blowFired x none s).onPlayer fun y => { y with
          play := some { p with counts := { p.counts with fired := p.counts.fired + 1 } } })) ∧
      (x.source = .hour → s.hour.state = .striking → s.hour.clearAt = none → s.hour.bell = some x.bell →
        (s.hour.done + 1 < s.hour.count → 1 ≤ s.plan.interval →
          exec i s = .next (nextBlow x.bell (s.now + s.plan.interval) .hour ((blowFired x none s).onHour fun y => { y with
            done := y.done + 1, posted := true, retry := none, lastFired := some s.timer }))) ∧
        (s.hour.count ≤ s.hour.done + 1 → 1 ≤ s.hammers[x.bell].recovery →
          exec i s = .next ((blowFired x none s).onHour fun y => { y with
            done := y.done + 1, posted := false, retry := none, lastFired := some s.timer,
            clearAt := some (s.timer + s.hammers[x.bell].recovery) }))) ∧
      (∀ (r : TollRun) (k : EntryNo), x.source = .tollEntry r.id k → r.toll.source = .entry k → s.toll = some r →
        r.clearAt = none → r.toll.bell = x.bell →
        let u : TollRun := { r with done := r.done + 1, fired := r.fired + 1, retry := none, lastFired := some s.timer }
        (r.done + 1 < r.toll.count → 1 ≤ r.toll.interval →
          exec i s = .next (nextBlow x.bell (s.now + (r.toll.interval : Int) * 1000) (.tollEntry r.id k)
            { blowFired x none s with toll := some u })) ∧
        (r.toll.count ≤ r.done + 1 → 1 ≤ s.hammers[x.bell].recovery →
          exec i s = .next { blowFired x none s with
            toll := some { u with clearAt := some (s.timer + s.hammers[x.bell].recovery) } })) ∧
      (∀ (r : TollRun) (n : Station) (tag : Byte), x.source = .tollStation r.id n → r.toll.source = .station n tag →
        s.toll = some r → r.clearAt = none → r.toll.bell = x.bell → r.done + 1 < r.toll.count → 1 ≤ r.toll.interval →
        exec i s = .next (nextBlow x.bell (s.now + (r.toll.interval : Int) * 1000) (.tollStation r.id n)
          { blowFired x none s with toll := some { r with
            done := r.done + 1, fired := r.fired + 1, retry := none, lastFired := some s.timer } }))) ∧
    (s.coils < 3 → ¬Fits x s →
      let w := { s with strikes := [] }.onBellCount x.bell fun c => { c with withheld := bump16 c.withheld }
      (∀ (n : Station) (tag : Byte), x.source = .hand n tag → exec i s = .next w) ∧
      (∀ (n : Station) (tag : Byte), x.source = .test n tag →
        exec i s = .next (notifyOne n (.complete tag (.test .withheld)) w)) ∧
      (∀ p : Play, x.source = .tune p.number → s.player.play = some p →
        exec i s = .next (w.onPlayer fun y => { y with
          play := some { p with counts := { p.counts with withheld := p.counts.withheld + 1 } } })) ∧
      (x.source = .hour → s.hour.state = .striking → s.hour.clearAt = none → s.hour.bell = some x.bell →
        s.hour.done + 1 < s.hour.count → 1 ≤ s.plan.interval →
        exec i s = .next (nextBlow x.bell (s.now + s.plan.interval) .hour
          (w.onHour fun y => { y with done := y.done + 1, posted := true, retry := none }))) ∧
      (∀ (r : TollRun) (k : EntryNo), x.source = .tollEntry r.id k → r.toll.source = .entry k → s.toll = some r →
        r.clearAt = none → r.toll.bell = x.bell → r.done + 1 < r.toll.count → 1 ≤ r.toll.interval →
        exec i s = .next (nextBlow x.bell (s.now + (r.toll.interval : Int) * 1000) (.tollEntry r.id k)
          { w with toll := some { r with done := r.done + 1, retry := none } }))) ∧
    (3 ≤ s.coils → x.fitted = true → exec i s = .next s)) ∧
  (∀ s : State,
    (∀ x : Strike, s.choose = some x → x ∈ s.strikes ∧ s.ready x = true ∧
      ∀ y ∈ s.strikes, s.ready y = true →
        x.due < y.due ∨ (x.due = y.due ∧ (x.bell < y.bell ∨ (x.bell = y.bell ∧ x.id ≤ y.id)))) ∧
    (s.choose = none → ∀ y ∈ s.strikes, s.ready y = false)) ∧
  (∀ (s : State) (x y : Strike) (n m : Station) (a b : Byte), s.running = true → s.strikes = [x, y] →
    x.source = .hand n a → y.source = .hand m b → x.fitted = true → y.fitted = true → s.ready x = true →
    s.ready y = true → Fits x s → Fits y s → x.bell ≠ y.bell → x.id ≠ y.id → s.coils = 2 →
    Unwatched (.bell x.bell) s → Unwatched (.bell y.bell) s →
    exec .strikeDue s =
      .next (if x.due < y.due ∨ (x.due = y.due ∧ x.bell < y.bell) then { blowFired x none s with strikes := [y] }
        else { blowFired y none s with strikes := [x] }))

/-- A pulse that has run its width ends, with no strike waiting: the coil is off; a window that has run its 150 ms
meanwhile is a miss, taken now; a swing grant that has waited for the pulse takes its drive to LIFT with a lift wait of
3 s, or, stopped meanwhile, to DROP with a drop wait of 3 s; and nothing else changes. Before its width has run, and on
a bell with no pulse, the event changes nothing (log 4). A strike sensor report inside the 150 ms of an open window
confirms the blow: the window closes, the misses are 0, and confirmed rises where the window is counted and commanded
is above it; with no window open, and after the 150 ms of one whose pulse still runs, it changes nothing. A window that
has run its 150 ms with no pulse in flight is a miss: it closes, the misses rise to at most 3, and missed rises where
it is counted; the third miss in a row puts an OK hammer at FAULT with cause MISSES and a FAULT to all stations.
Earlier, or while the pulse is in flight, the event changes nothing (log 4). The source of a HAMMER TEST's window hears
COMPLETE, CONFIRMED or MISSED, a FAULT before it (the model's choice: log 57). -/
def Obligations.PulsesAndWindowsEnd : Prop :=
  (∀ (b : BellNo) (s : State),
      (∀ p : Pulse, s.hammers[b].pulse = some p →
        (p.start + p.width ≤ s.timer → s.strikes = [] →
          let off := s.onHammer b fun x => { x with pulse := none }
          let ended := match s.hammers[b].window with
            | some w => if w.start + 150 ≤ s.timer then blowMissed b w off else off
            | none => off
          (s.driveOf b = none → exec (.hammerPulseEnd b) s = .next ended) ∧
          (∀ d : DriveNo, s.driveOf b = some d →
            (s.drives[d].grantWaiting = false → exec (.hammerPulseEnd b) s = .next ended) ∧
            (s.drives[d].grantWaiting = true → NoHeads s →
              exec (.hammerPulseEnd b) s = .next (ended.onDrive d fun x =>
                let y : Drive := { x with grantWaiting := false, deadline := some (s.timer + 3000) }
                if x.cause = .none then { y with state := .lift }
                else { y with
                  state := .drop, fwd := openedAt s.timer x.fwd, rev := openedAt s.timer x.rev, pulse := none,
                  sensorDeadline := none })))) ∧
        (s.timer < p.start + p.width → exec (.hammerPulseEnd b) s = .next s)) ∧
      (s.hammers[b].pulse = none → exec (.hammerPulseEnd b) s = .next s)) ∧
  (∀ (b : BellNo) (s : State),
      (∀ w : Window, s.hammers[b].window = some w → s.timer < w.start + 150 →
        exec (.strikeSensorReport b) s =
          .next (testTold w .confirmed
            ((s.onHammer b fun x => { x with window := none, misses := 0 }).onBellCount b fun c =>
              if w.counted = true ∧ c.confirmed < c.commanded then { c with confirmed := bump16 c.confirmed } else c))) ∧
      (∀ w : Window, s.hammers[b].window = some w → w.start + 150 ≤ s.timer →
        exec (.strikeSensorReport b) s = .next s) ∧
      (s.hammers[b].window = none → exec (.strikeSensorReport b) s = .next s)) ∧
  (∀ (b : BellNo) (s : State) (w : Window), s.hammers[b].window = some w →
      (w.start + 150 ≤ s.timer → s.hammers[b].pulse = none →
        exec (.verificationWindowEnd b) s = .next (blowMissed b w s)) ∧
      (s.timer < w.start + 150 ∨ s.hammers[b].pulse ≠ none → exec (.verificationWindowEnd b) s = .next s)) ∧
  (∀ (b : BellNo) (s : State), s.hammers[b].window = none → exec (.verificationWindowEnd b) s = .next s)

/-- HAND STRIKE, HAMMER TEST and TOLL by a station with RING need a present bell that the station holds: NO SUCH for an
absent one, NOT OWNER for another's. A hand strike is posted due its clamped delay after now and answered DONE with the
due time, FULL when 32 strikes wait; a test posted due now on a bell whose coil must wait is answered QUEUED; a toll
joins a queue of one to three, QUEUED, its count and interval clamped, and is refused FULL at four. TOLL STOP with the
generator idle is refused NO SUCH (so it is for a toll that has ended and keeps its mark: log 17), of another station's
toll without INSTALL NOT OWNER. Of a schedule entry's toll, of the station's own and, with INSTALL, of another's it ends
the toll, its source told COMPLETE, STOPPED with the blows fired: its strike is removed; before the recovery of its last
blow it keeps its mark until then; else its mark is cleared, its bell released to the head of its pending list, and the
generator idle (the recovery is the one in force now, log 53; the COMPLETE enters before a BELL GRANTED, log 57). A hand
strike without delay and a test on a ready bell fire at once, the test's window naming its source, or its COMPLETE
saying NO SENSOR. A toll with the queue empty and the generator idle starts: it is the current toll, marks its bell, and
posts its first blow due now, which waits for the bell, or fires and posts the next blow. -/
def Obligations.StrikesAndTollsOfAStation : Prop :=
  (∀ (h : Head) (b : BellNo) (s : State), Ready h s → s.rights[h.station].ring = true →
      (∀ n c v : Nat, ∀ r : Reason,
        (s.bells[b].present = false ∧ r = .noSuch) ∨
          (s.bells[b].present = true ∧ s.bells[b].holder ≠ .station h.station ∧ r = .notOwner) →
        exec (.handStrike h (b.val + 1) n) s = .next (answered h (refuse r) .nothing s) ∧
        exec (.hammerTest h (b.val + 1)) s = .next (answered h (refuse r) .nothing s) ∧
        exec (.toll h (b.val + 1) c v) s = .next (answered h (refuse r) .nothing s)) ∧
      (s.bells[b].present = true → s.bells[b].holder = .station h.station →
        (∀ n : Nat, 1 ≤ n → s.strikes = [] →
          exec (.handStrike h (b.val + 1) n) s =
            .next (answered h (.done (outside 0 5000 n) (.due (s.now + (clamp 0 5000 n : Nat)))) .nothing
              { s with
                strikes := [⟨s.nextStrike, b, s.now + (clamp 0 5000 n : Nat), .hand h.station h.tag, false⟩],
                nextStrike := s.nextStrike + 1 })) ∧
        (s.strikes = [] → s.recovered b = false → s.hammers[b].fitted = true → s.hammers[b].ok = true →
          s.swingOf b = .down → s.engaged b = true →
          exec (.hammerTest h (b.val + 1)) s =
            .next (answered h (.queued false) .nothing
              { s with
                strikes := [⟨s.nextStrike, b, s.now, .test h.station h.tag, true⟩], nextStrike := s.nextStrike + 1 })) ∧
        (∀ x y : Strike, s.strikes = [] → s.recovered b = true → s.coils < 3 → Unwatched (.bell b) s →
          x = ⟨s.nextStrike, b, s.now, .hand h.station h.tag, false⟩ →
          y = ⟨s.nextStrike, b, s.now, .test h.station h.tag, false⟩ → Fits x s →
          let posted : State := { s with nextStrike := s.nextStrike + 1 }
          exec (.handStrike h (b.val + 1) 0) s =
            .next (answered h (.done false (.due s.now)) .nothing (blowFired x none posted)) ∧
          (s.hammers[b].sensor = true →
            exec (.hammerTest h (b.val + 1)) s =
              .next (answered h (.queued false) .nothing (blowFired y (some (h.station, h.tag)) posted))) ∧
          (s.hammers[b].sensor = false → s.links[h.station].notices = [] →
            ∃ u : State, exec (.hammerTest h (b.val + 1)) s = .next u ∧ u.strikes = [] ∧
              u.hammers = (blowFired y none posted).hammers ∧ u.counters = (blowFired y none posted).counters ∧
              u.links[h.station].tx = some (.reply ⟨h.tag, .queued false, .nothing⟩) ∧
              u.links[h.station].notices = [.complete h.tag (.test .noSensor)])) ∧
        (∀ c v : Nat, s.tollQueue = [] → s.toll = none → s.strikes = [] →
          let r : TollRun :=
            ⟨s.nextToll, ⟨b, clamp 1 120 c, clamp 2 60 v, .station h.station h.tag, s.timer⟩, 0, 0, none, none, none⟩
          let x : Strike := ⟨s.nextStrike, b, s.now, .tollStation s.nextToll h.station, true⟩
          let started : State := ({ s with toll := some r, nextToll := s.nextToll + 1 }.onMarks b
            fun m => { m with toll := true })
          let clamped := outside 1 120 c || outside 2 60 v
          Fits x s →
            (s.recovered b = false →
              exec (.toll h (b.val + 1) c v) s =
                .next (answered h (.queued clamped) .nothing
                  { started with strikes := [x], nextStrike := s.nextStrike + 1 })) ∧
            (s.recovered b = true → s.coils < 3 → Unwatched (.bell b) s → 2 ≤ c →
              exec (.toll h (b.val + 1) c v) s =
                .next (answered h (.queued clamped) .nothing
                  (nextBlow b (s.now + (clamp 2 60 v : Nat) * 1000) (.tollStation s.nextToll h.station)
                    { blowFired x none { started with nextStrike := s.nextStrike + 1 } with
                      toll := some { r with done := 1, fired := 1, lastFired := some s.timer } })))) ∧
        (∀ n : Nat, 32 ≤ s.strikes.length →
          exec (.handStrike h (b.val + 1) n) s = .next (answered h (refuse .full) .nothing s) ∧
          exec (.hammerTest h (b.val + 1)) s = .next (answered h (refuse .full) .nothing s)) ∧
        (∀ c v : Nat, 1 ≤ s.tollQueue.length → s.tollQueue.length ≤ 3 →
          exec (.toll h (b.val + 1) c v) s =
            .next (answered h (.queued (outside 1 120 c || outside 2 60 v)) .nothing
              { s with
                tollQueue := s.tollQueue ++ [⟨b, clamp 1 120 c, clamp 2 60 v, .station h.station h.tag, s.timer⟩] })) ∧
        (∀ c v : Nat, 4 ≤ s.tollQueue.length →
          exec (.toll h (b.val + 1) c v) s = .next (answered h (refuse .full) .nothing s)))) ∧
  (∀ (h : Head) (s : State), Ready h s → s.rights[h.station].ring = true →
      ((∀ r : TollRun, s.toll = some r → r.clearAt ≠ none) →
        exec (.tollStop h) s = .next (answered h (refuse .noSuch) .nothing s)) ∧
      (∀ (r : TollRun) (n : Station) (tag : Byte), s.toll = some r → r.clearAt = none → r.toll.source = .station n tag →
        n ≠ h.station → s.rights[h.station].install = false →
        exec (.tollStop h) s = .next (answered h (refuse .notOwner) .nothing s)) ∧
      (∀ r : TollRun, s.toll = some r → r.clearAt = none →
        ((∃ k, r.toll.source = .entry k) ∨
          ∃ n tag, r.toll.source = .station n tag ∧ (n = h.station ∨ s.rights[h.station].install = true)) →
        let left := s.strikes.filter fun x => !x.source.isToll r.id
        let told := fun u : State => match r.toll.source with
          | .station n tag => notifyOne n (.complete tag (.toll .stopped r.fired)) u
          | .entry _ => u
        (∀ t : Nat, r.lastFired = some t → s.timer < t + s.hammers[r.toll.bell].recovery →
          exec (.tollStop h) s =
            .next (told (answered h (.done false .none) .nothing
              { s with
                strikes := left,
                toll := some { r with retry := none, clearAt := some (t + s.hammers[r.toll.bell].recovery) } }))) ∧
        ((∀ t : Nat, r.lastFired = some t → t + s.hammers[r.toll.bell].recovery ≤ s.timer) → s.tollQueue = [] →
          MarkHead r.toll.bell s →
          exec (.tollStop h) s =
            .next (released r.toll.bell (told (answered h (.done false .none) .nothing
              ({ s with strikes := left, toll := none }.onMarks r.toll.bell fun m => { m with toll := false })))))))

/-- STRIKE PLAN WRITE stores the plan with its interval, late limit and gap clamped and sends CHANGED to the other
stations; an absent hour bell is refused NO SUCH. HAMMER CLEAR returns a hammer to OK with no misses and sends
CHANGED; one that is OK with no misses is answered DONE with nothing changed and no CHANGED (log 60). COUNTERS
SNAPSHOT copies the counters with its station and local time; with CLEAR it then sets every counter to 0, leaves every
open window uncounted, and sends CHANGED. -/
def Obligations.PlanHammerAndCounterWrites : Prop :=
  ∀ (h : Head) (s : State), Ready h s →
    (s.rights[h.station].program = true →
      ∀ (b : BellNo) (on : Bool) (m : CountMode) (i l g : Nat) (q15 q30 q45 q00 : Option SlotNo),
        exec (.strikePlanWrite h
            ⟨b.val + 1, on, m, i, l, q15.map (·.val), q30.map (·.val), q45.map (·.val), q00.map (·.val), g⟩) s =
          .next (if s.bells[b].present then
            answered h (.done (outside 1000 5000 i || outside 0 15 l || outside 0 10 g) .none) .nothing
              (announce .strikePlan (.station h.station)
                { s with plan :=
                  ⟨b, on, m, clamp 1000 5000 i, clamp 0 15 l, q15, q30, q45, q00, clamp 0 10 g⟩ })
            else answered h (refuse .noSuch) .nothing s)) ∧
    (s.rights[h.station].ring = true → ∀ b : BellNo,
      exec (.hammerClear h (b.val + 1)) s =
        .next (answered h (.done false .none) .nothing
          (if s.hammers[b].ok = true ∧ s.hammers[b].misses = 0 then s
           else announce (.hammer b) (.station h.station)
            (s.onHammer b fun x => { x with ok := true, cause := .none, misses := 0 })))) ∧
    exec (.countersSnapshot h false) s =
      .next (answered h (.done false (.snapshotTime s.tb.loc)) .nothing
        { s with snapshot := some ⟨s.counters, h.station, s.tb.loc, false⟩ }) ∧
    (s.rights[h.station].ring = true →
      exec (.countersSnapshot h true) s =
        .next (answered h (.done false (.snapshotTime s.tb.loc)) .nothing
          (announce .counters (.station h.station)
            { s with
              snapshot := some ⟨s.counters, h.station, s.tb.loc, true⟩, counters := zeroCounters,
              hammers := s.hammers.map fun x =>
                { x with window := x.window.map fun w => { w with counted := false } } })))

/-! ### The hour run and the toll (4.6, 4.7) -/

/-- When the gap has passed the hour run starts (count by the boundary's hour, 12 for 0, or 1 in SINGLE mode), marks its
bell and posts its first blow due now; with hour strike off, or past the late limit, or silenced, it does not. An absent
hour bell drops the run. (It is silenced by the local time as the time base counts it, in the millisecond of a minute
boundary too: log 70. That a run in the gap goes by the plan in force when it is to start, so that one whose hour strike
has been turned off since its boundary ends without a blow, is the model's choice: log 54.) Before the gap's end nothing
changes. A refused post is repeated 100 ms later, refused again for a full list, accepted for an empty one. The run ends
at the late-limit deadline with its mark cleared, and an ended run's mark is cleared when the last blow's recovery has
passed. (The bell may not strike yet; the IDLE record's other fields: log 40.) A mark cleared on a bell of CLOCK that no
other mark holds grants the head of its pending list. A head that has waited 120 s is removed and counted abandoned (a
schedule entry's, alone in the queue); a younger one stays. A refused post of a toll is repeated 100 ms later while the
list is full; a whole interval past its due time the blow is counted withheld, and the last blow ends the toll; a
station's toll with a blow done, none fired, whose bell the station no longer holds ends at the repeat, ENDED. The mark
is cleared when the recovery has passed, and the generator is idle. (Each limit acts at its own millisecond, log 31; an
event before its time changes nothing, log 4; the COMPLETE of a station's toll enters before the BELL GRANTED that the
clearing of its mark raises, log 57.) -/
def Obligations.HourAndTollTimers : Prop :=
  (∀ (s : State),
      (s.hour.state = .gap → s.hour.gapEnd ≤ s.timer →
        (s.plan.hourStrike = false → exec .hourFollowGapEnd s = .next { s with hour := idleHour }) ∧
        (s.plan.hourStrike = true → s.hour.deadline < s.timer →
          exec .hourFollowGapEnd s = .next ({ s with hour := idleHour }.onCounters fun c =>
            { c with hourDropped := bump16 c.hourDropped })) ∧
        (s.plan.hourStrike = true → s.timer ≤ s.hour.deadline → s.bells[s.plan.hourBell].present = false →
          exec .hourFollowGapEnd s = .next ({ s with hour := idleHour }.onCounters fun c =>
            { c with hourDropped := bump16 c.hourDropped })) ∧
        (s.plan.hourStrike = true → s.timer ≤ s.hour.deadline → s.bells[s.plan.hourBell].present = true →
          s.silenced .hours = true → exec .hourFollowGapEnd s = .next { s with hour := idleHour }) ∧
        (∀ b : BellNo, s.plan.hourStrike = true → s.timer ≤ s.hour.deadline → s.plan.hourBell = b →
          s.bells[b].present = true → s.silenced .hours = false → s.strikes = [] → s.recovered b = false →
          s.hammers[b].fitted = true → s.hammers[b].ok = true → s.swingOf b = .down → s.engaged b = true →
          s.bells[b].holder = .clock →
          exec .hourFollowGapEnd s =
            .next ((hourBlowWaits b s.now (s.onHour fun x => { x with
              state := .striking, awaited := none, bell := some b, done := 0, posted := true, retry := none,
              lastFired := none, clearAt := none,
              count := match s.plan.mode with
                | .single => 1
                | .twelve => if x.boundary / 60 % 12 = 0 then 12 else x.boundary / 60 % 12 })).onMarks b fun m =>
                  { m with hour := true }))) ∧
      (s.hour.state = .gap → s.timer < s.hour.gapEnd → exec .hourFollowGapEnd s = .next s) ∧
      (∀ (r : Retry) (b : BellNo), s.hour.retry = some r → s.hour.bell = some b →
        (s.timer < r.tryAt → exec .hourPostRetry s = .next s) ∧
        (r.tryAt ≤ s.timer → 32 ≤ s.strikes.length →
          exec .hourPostRetry s =
            .next (s.onHour fun x => { x with posted := false, retry := some ⟨r.due, s.timer + 100⟩ })) ∧
        (r.tryAt ≤ s.timer → s.strikes = [] → r.due ≤ s.now → s.recovered b = false → s.bells[b].present = true →
          s.hammers[b].fitted = true → s.hammers[b].ok = true → s.swingOf b = .down → s.engaged b = true →
          s.bells[b].holder = .clock →
          exec .hourPostRetry s =
            .next (hourBlowWaits b r.due (s.onHour fun x => { x with posted := true, retry := none }))) ∧
        (s.hour.deadline ≤ s.timer → s.hour.lastFired = none → MarkHead b s →
          exec .hourLateDeadline s =
            .next (released b ({ s with hour := idleHour }.onMarks b fun m => { m with hour := false }))) ∧
        (s.timer < s.hour.deadline → exec .hourLateDeadline s = .next s)) ∧
      (∀ (t : Nat) (b : BellNo), s.hour.clearAt = some t → s.hour.bell = some b →
        (t ≤ s.timer → MarkHead b s →
          exec .hourMarkClear s =
            .next (released b ({ s with hour := idleHour }.onMarks b fun m => { m with hour := false }))) ∧
        (s.timer < t → exec .hourMarkClear s = .next s))) ∧
  (∀ (s : State),
      (∀ (t : Toll) (k : EntryNo), s.tollQueue = [t] → t.source = .entry k →
        (t.postTime + 120000 ≤ s.timer →
          exec .tollHeadWaitLimit s =
            .next ({ s with tollQueue := [] }.onCounters fun c => { c with tollsAbandoned := bump16 c.tollsAbandoned })) ∧
        (s.timer < t.postTime + 120000 → exec .tollHeadWaitLimit s = .next s)) ∧
      (∀ (r : TollRun) (x : Retry), s.toll = some r → r.retry = some x →
        (s.timer < x.tryAt → exec .tollPostRetry s = .next s) ∧
        (x.tryAt ≤ s.timer → s.now < x.due + (r.toll.interval : Int) * 1000 → 32 ≤ s.strikes.length →
          (∀ (n : Station) (tag : Byte), r.toll.source = .station n tag →
            r.done = 0 ∨ s.bells[r.toll.bell].holder = .station n) →
          exec .tollPostRetry s = .next { s with toll := some { r with retry := some ⟨x.due, s.timer + 100⟩ } }) ∧
        (∀ (n : Station) (tag : Byte), x.tryAt ≤ s.timer → s.now < x.due + (r.toll.interval : Int) * 1000 →
          r.toll.source = .station n tag → 1 ≤ r.done → s.bells[r.toll.bell].holder ≠ .station n → r.lastFired = none →
          s.tollQueue = [] → MarkHead r.toll.bell s →
          exec .tollPostRetry s =
            .next (released r.toll.bell (notifyOne n (.complete tag (.toll .ended r.fired)) ({ s with toll := none }.onMarks
              r.toll.bell fun m => { m with toll := false })))) ∧
        (∀ k : EntryNo, x.tryAt ≤ s.timer → x.due + (r.toll.interval : Int) * 1000 ≤ s.now → r.toll.source = .entry k →
          r.toll.count ≤ r.done + 1 → r.lastFired = none → s.tollQueue = [] → MarkHead r.toll.bell s →
          exec .tollPostRetry s =
            .next (released r.toll.bell (({ s with toll := none }.onBellCount r.toll.bell fun c =>
              { c with withheld := bump16 c.withheld }).onMarks r.toll.bell fun m => { m with toll := false })))) ∧
      (∀ (r : TollRun) (t : Nat), s.toll = some r → r.clearAt = some t → s.tollQueue = [] →
        MarkHead r.toll.bell s →
        (t ≤ s.timer →
          exec .tollMarkClear s =
            .next (released r.toll.bell ({ s with toll := none }.onMarks r.toll.bell fun m => { m with toll := false }))) ∧
        (s.timer < t → exec .tollMarkClear s = .next s)))

/-! ### Tunes (05) -/

/-- The step time is length × 7500 / tempo rounded to the nearest ms, halves up, and the beat time that of eight
eighth-beats; the play time with r repeats is r times the sum of the step times, each rounded on its own, plus r − 1
beat times; TUNE READ of a READY slot shows the play time for one repeat. At tempo 120 a tune of eight steps of length
1 plays for 504 ms. -/
def Obligations.StepAndPlayTimes : Prop :=
  (∀ tempo length : Nat, 1 ≤ tempo →
    2 * (stepTime tempo length * tempo) ≤ 2 * (length * 7500) + tempo ∧
      2 * (length * 7500) + tempo < 2 * (stepTime tempo length * tempo) + 2 * tempo) ∧
  (∀ tempo : Nat, 1 ≤ tempo →
    2 * (stepTime tempo 8 * tempo) ≤ 2 * 60000 + tempo ∧
      2 * 60000 + tempo < 2 * (stepTime tempo 8 * tempo) + 2 * tempo) ∧
  (∀ (x : Slot) (r : Nat), 1 ≤ r →
    x.playTime r = r * (x.written.map fun t => stepTime x.tempo t.length).sum + (r - 1) * stepTime x.tempo 8) ∧
  (∀ (h : Head) (i : SlotNo) (n : Nat) (s : State), Ready h s → s.slots[i].state = .ready → n < s.slots[i].count →
    exec (.tuneRead h i.val n) s =
      .next (readBack h
        (.tuneRead .ready s.slots[i].name s.slots[i].tempo s.slots[i].count s.slots[i].count s.slots[i].loader
          (some (s.slots[i].bellSet, s.slots[i].playTime 1)) none ((s.slots[i].steps.drop n).take 16)) s)) ∧
  (∀ x : Slot, x.tempo = 120 → x.written.map TuneStep.length = List.replicate 8 1 → x.playTime 1 = 504) ∧
  (stepTime 100 3 = 225 ∧ stepTime 96 1 = 78 ∧ stepTime 120 1 = 63 ∧ stepTime 240 1 = 31 ∧ stepTime 72 5 = 521 ∧
    stepTime 30 32 = 8000 ∧ stepTime 100 8 = 600 ∧ stepTime 96 8 = 625)

/-- TUNE BEGIN by a station with PROGRAM, on a slot that is not played, that no other station loads and whose steps
fit the free pool with the slot's own reservation given back, reserves the steps for the loader with its loading timer
at 60 s, and answers the steps reserved and free. Every request that waits for the slot leaves the queue, abandoned:
counted, a station told COMPLETE, a quarter's entry of the quarter plan set, and the hour run that awaits it started;
where the head was among them the new head is tested (here a tune is played, or no request is left; a COMPLETE enters
before the CHANGED of the slot: log 57). Two effects are the model's choices: a head test that the play stops at once
takes the wait limit all the same (log 41), and the awaiting hour run starts by the strike plan in force, which ends it
where hour strike is off by then (log 54). It is refused FULL when they do not fit, BUSY when the slot is played or
another station's. The pool: used is the sum of the reservations of all sixteen slots (a slot's step count while it is
LOADING or READY), and while it lies within 768, used plus free is 768. -/
def Obligations.TuneBeginReservesThePool : Prop :=
  (∀ (h : Head) (i : SlotNo) (name : List Nat) (tempo total : Nat) (s : State), Ready h s →
      s.rights[h.station].program = true → 1 ≤ total → total ≤ 256 → nameOk name = true →
      let played := (∃ p, s.player.play = some p ∧ p.slot = i) ∨
        (s.slots[i].state = .loading ∧ s.slots[i].loader ≠ some h.station)
      (played → exec (.tuneBegin h i.val name tempo total) s = .next (answered h (refuse .busy) .nothing s)) ∧
      (¬played → s.poolFree + s.slots[i].reserved < total →
        exec (.tuneBegin h i.val name tempo total) s = .next (answered h (refuse .full) .nothing s)) ∧
      (¬played → total ≤ s.poolFree + s.slots[i].reserved → (∀ r ∈ s.player.queue, r.slot ≠ i) →
        let t := s.onSlot i fun _ =>
          { state := .loading, name := name, tempo := clamp 30 240 tempo, count := total,
            steps := List.replicate total none, loader := some h.station, loadEnd := s.timer + 60000 }
        exec (.tuneBegin h i.val name tempo total) s =
          .next (answered h (.done (outside 30 240 tempo) (.tuneBegin total t.poolFree)) .nothing
            (announce (.tuneSlot i) (.station h.station) t))) ∧
      (¬played → total ≤ s.poolFree + s.slots[i].reserved →
        let gone := s.player.queue.filter fun r => r.slot = i
        let kept := s.player.queue.filter fun r => r.slot ≠ i
        let headGone := ∃ r ∈ s.player.queue.head?, r.slot = i
        gone ≠ [] → s.player.play ≠ none ∨ kept = [] → (∀ r ∈ gone, r.follow = false) ∨ FirstBlowWaits s →
        let t := (s.onSlot i fun _ =>
          { state := .loading, name := name, tempo := clamp 30 240 tempo, count := total,
            steps := List.replicate total none, loader := some h.station, loadEnd := s.timer + 60000 }).onPlayer fun p =>
          { p with
            queue := kept, failing := if kept = [] then none else p.failing,
            testedLimit := if headGone ∧ kept ≠ [] then p.waitLimit else p.testedLimit }
        let u := gone.foldl (fun v r => tuneAbandoned r v)
          (answered h (.done (outside 30 240 tempo) (.tuneBegin total t.poolFree)) .nothing t)
        exec (.tuneBegin h i.val name tempo total) s =
          .next (announce (.tuneSlot i) (.station h.station)
            ((gone.filter TuneReq.follow).foldl (fun v r => followed r.id .abandoned v) u)))) ∧
  (∀ s : State, s.poolUsed ≤ 768 → s.poolUsed + s.poolFree = 768 ∧
      s.poolUsed = ((List.finRange 16).map fun i : SlotNo =>
        if s.slots[i].state = .empty then 0 else s.slots[i].count).sum)

/-- TUNE STEPS of the loader writes its steps from its offset, each with its bells in ascending number and its length
clamped, restarts the loading timer and answers the number still unwritten; TUNE END with every step written makes the
slot READY and answers its bell set and play time, and with one unwritten is refused INCOMPLETE with the lowest; TUNE
ABORT makes the slot EMPTY. All three are refused NO SUCH on a slot that is not LOADING, and NOT OWNER on another
station's (ABORT: without INSTALL). A loading timer that has run out makes the slot EMPTY, announced by the part; one
that has not, or of a slot that is not LOADING, changes nothing (log 4). (The ascending number of a kept step's bells
is the model's choice: log 73.) -/
def Obligations.TuneLoading : Prop :=
  ∀ (i : SlotNo) (s : State),
    (∀ h : Head, Ready h s → s.rights[h.station].program = true →
      (s.slots[i].state ≠ .loading → ∀ (o : Nat) (l : List StepBody),
        exec (.tuneSteps h i.val o l) s = .next (answered h (refuse .noSuch) .nothing s) ∧
        exec (.tuneEnd h i.val) s = .next (answered h (refuse .noSuch) .nothing s) ∧
        exec (.tuneAbort h i.val) s = .next (answered h (refuse .noSuch) .nothing s)) ∧
      (s.slots[i].state = .loading → s.slots[i].loader ≠ some h.station → s.rights[h.station].install = false →
        ∀ (o : Nat) (l : List StepBody),
        exec (.tuneSteps h i.val o l) s = .next (answered h (refuse .notOwner) .nothing s) ∧
        exec (.tuneEnd h i.val) s = .next (answered h (refuse .notOwner) .nothing s) ∧
        exec (.tuneAbort h i.val) s = .next (answered h (refuse .notOwner) .nothing s)) ∧
      (s.slots[i].state = .loading → s.slots[i].loader = some h.station →
        (∀ (o : Nat) (l : List StepBody) (new : List TuneStep), l.mapM readStep = some new →
          o + l.length ≤ s.slots[i].count →
          let t := s.onSlot i fun x => { x with
            steps := x.steps.take o ++ new.map some ++ x.steps.drop (o + new.length), loadEnd := s.timer + 60000 }
          exec (.tuneSteps h i.val o l) s =
            .next (answered h
              (.done (l.any fun x => outside 1 32 x.length) (.unwritten (t.slots[i].steps.filter Option.isNone).length))
              .nothing t)) ∧
        ((∀ x ∈ s.slots[i].steps, x ≠ none) →
          exec (.tuneEnd h i.val) s =
            .next (answered h (.done false (.tuneEnd s.slots[i].bellSet s.slots[i].repeatTime)) .nothing
              (announce (.tuneSlot i) (.station h.station)
                (s.onSlot i fun x => { x with state := .ready, loader := none })))) ∧
        (∀ (front back : List (Option TuneStep)), s.slots[i].steps = front ++ none :: back → (∀ x ∈ front, x ≠ none) →
          exec (.tuneEnd h i.val) s = .next (answered h (.refused .incomplete (.step front.length)) .nothing s)) ∧
        (let t := s.onSlot i fun _ => emptySlot
         exec (.tuneAbort h i.val) s =
          .next (answered h (.done false (.free t.poolFree)) .nothing (announce (.tuneSlot i) (.station h.station) t))))) ∧
    (s.running = true → s.slots[i].state = .loading → s.slots[i].loadEnd ≤ s.timer →
      exec (.loadingTimerExpiry i) s = .next (announce (.tuneSlot i) .part (s.onSlot i fun _ => emptySlot))) ∧
    (s.slots[i].state ≠ .loading ∨ s.timer < s.slots[i].loadEnd → exec (.loadingTimerExpiry i) s = .next s)

/-- PLAY of a READY slot while a tune is played joins the queue, QUEUED, its repeats clamped; of a slot that is not
READY it is refused NO SUCH, and with eight requests waiting FULL. With nothing played or queued and every bell of the
set with CLOCK, at rest and unclaimed, it begins at once: the set is marked and the first step begins. A TUNE entry
that fires enters its request behind those that wait while a tune is played, begins it with nothing played or queued,
has it removed and counted SILENCED in a window for SCHEDULED, and drops it, counted, where its slot is not READY or
the queue full. A quarter request, raised by the minute event of a quarter whose slot is set and that is not silenced
(with the follow flag at :00 with hour strike on, where the hour run goes to FOLLOW WAIT for it), is entered and its
entry of the quarter plan set to WAITING, or PLAYING where it begins at once; it takes the place of a quarter request
that waits, which is dropped and REPLACED; and it is dropped, DROPPED, where its slot is not READY or the queue full:
a dropped request with the follow flag lets the hour run that awaits it start at once (log 54; the identity by which
it awaits a request: log 22). A request alone in the queue whose wait limit has run out is abandoned: a station is
told COMPLETE, a quarter's entry is set and, with the follow flag, the hour run that awaits it starts (the limit is
that of the last head test, log 41, and acts at its own millisecond, log 31). A step of the play begins at its
instant: a rest only moves the play on, the blows of its bells are posted with the step's instant as their due time
and counted posted (they are considered for firing at STRIKE_DUE, log 48), and a blow refused for a full list is
counted withheld. Before its instant nothing changes (log 4). The play moves to the next step, after the last step of
a repeat to the first of the next repeat one beat later, and after the last of all to no step (its indices stay: log
67). -/
def Obligations.PlaysQueueAndStep : Prop :=
  (∀ (s : State),
      (∀ (h : Head) (i : SlotNo) (n : Nat), Ready h s → s.rights[h.station].ring = true →
        (s.slots[i].state ≠ .ready → exec (.play h i.val n) s = .next (answered h (refuse .noSuch) .nothing s)) ∧
        (s.slots[i].state = .ready → 8 ≤ s.player.queue.length →
          exec (.play h i.val n) s = .next (answered h (refuse .full) .nothing s)) ∧
        (s.slots[i].state = .ready → s.player.queue.length < 8 → s.player.play ≠ none →
          exec (.play h i.val n) s =
            .next (answered h (.queued (outside 1 4 n)) .nothing
              (s.onPlayer fun p => { p with
                queue := p.queue ++ [⟨p.nextId, i, .station h.station h.tag, clamp 1 4 n, s.timer, false⟩],
                nextId := p.nextId + 1,
                testedLimit := if p.queue = [] then p.waitLimit else p.testedLimit }))) ∧
        (∀ x : TuneStep, s.slots[i].state = .ready → s.player.queue = [] → s.player.play = none → s.strikes = [] →
          (∀ b ∈ s.slots[i].bellSet, s.bells[b].holder = .clock ∧ s.swingOf b = .down ∧ s.bells[b].waiting = []) →
          s.slots[i].written[0]? = some x → x.bells.length ≤ 32 →
          let p : Play := ⟨s.player.nextPlay, i, s.slots[i].bellSet, s.slots[i].tempo, .station h.station h.tag,
            clamp 1 4 n, false,
            s.player.nextId, 0, 0, some s.timer, s.now, s.timer, ⟨x.bells.length, 0, 0, 0⟩⟩
          exec (.play h i.val n) s =
            .next (answered h (.queued (outside 1 4 n)) .nothing
              ((forAll s.slots[i].bellSet (fun b (u : State) => u.onMarks b fun m => { m with tune := true })
                (stepBlows x.bells s.now p.number s)).onPlayer fun q => { q with
                  play := some (stepAfter p s.slots[i].written s.timer x), nextPlay := (q.nextPlay + 1) % 65536,
                  nextId := q.nextId + 1, failing := none, testedLimit := q.waitLimit })))) ∧
      (∀ (r : TuneReq), s.player.queue = [r] →
        (r.postTime + s.player.testedLimit * 1000 ≤ s.timer → r.follow = false ∨ FirstBlowWaits s →
          let t := tuneAbandoned r (s.onPlayer fun p => { p with queue := [], failing := none })
          exec .tuneWaitLimit s = .next (if r.follow then followed r.id .abandoned t else t)) ∧
        (s.timer < r.postTime + s.player.testedLimit * 1000 → exec .tuneWaitLimit s = .next s)) ∧
      (∀ (k : EntryNo) (e : Entry) (i : SlotNo) (n : Nat), FiresAlone k e s → e.action = .tune i n →
        let t := firedAlone k e s
        let r : TuneReq := ⟨s.player.nextId, i, .schedule k, n, s.timer, false⟩
        let lost := s.slots[i].state ≠ .ready ∨ 8 ≤ s.player.queue.length
        (¬lost → s.player.play ≠ none →
          exec .minuteEvent s = .next (t.onPlayer fun p => { p with
            queue := p.queue ++ [r], nextId := p.nextId + 1, testedLimit := p.waitLimit })) ∧
        (lost → s.player.play ≠ none ∨ s.player.queue = [] →
          exec .minuteEvent s = .next (t.onPlayer fun p => { p with
            counts := { p.counts with dropped := bump16 p.counts.dropped },
            testedLimit := if p.queue = [] then p.testedLimit else p.waitLimit,
            failing := if p.queue = [] then none else p.failing })) ∧
        (¬lost → s.player.queue = [] → s.player.play = none → t.silenced .scheduled = true →
          exec .minuteEvent s = .next (t.onPlayer fun p => { p with
            counts := { p.counts with silenced := bump16 p.counts.silenced }, nextId := p.nextId + 1, failing := none,
            testedLimit := p.waitLimit })) ∧
        (∀ x : TuneStep, ¬lost → TuneFree r x s → t.silenced .scheduled = false →
          exec .minuteEvent s = .next (tuneBegun r x t))) ∧
      (∀ (q : Quarter) (i : SlotNo),
        let u : State := { s with tb := s.tb.redecide.see }
        let minute := u.tb.loc.minute
        let follow := decide (q = .q00) && s.plan.hourStrike
        let r : TuneReq := ⟨s.player.nextId, i, .quarter q, 1, s.timer, follow⟩
        let now := some u.tb.loc
        let t : State := if q = .q00 then u.onHour fun x => { x with
            boundary := minute, deadline := s.timer + s.plan.lateLimit * 60000,
            state := if follow then .followWait else x.state,
            awaited := if follow then some s.player.nextId else x.awaited }
          else u
        s.minuteDue = true → s.tb.validity ≠ .unset → PlanSteady u → Unscheduled s → minute % 60 = quarterMinute q →
        s.plan.slotOf q = some i → u.silenced .quarters = false → q ≠ .q00 ∨ s.hour.state = .idle →
        (s.slots[i].state = .ready → s.player.play ≠ none → s.player.queue.length < 8 →
          (∀ x ∈ s.player.queue, x.isQuarter = false) →
          exec .minuteEvent s = .next (t.onPlayer fun p => ({ p with
            queue := p.queue ++ [r], nextId := p.nextId + 1, testedLimit := p.waitLimit }).setQuarter q ⟨.waiting, now⟩)) ∧
        (∀ (front back : List TuneReq) (old : TuneReq) (q' : Quarter), s.slots[i].state = .ready →
          s.player.play ≠ none → s.player.queue = front ++ old :: back → old.source = .quarter q' →
          (∀ x ∈ front ++ back, x.isQuarter = false) →
          let v := t.onPlayer fun p => ({ p with
            queue := front ++ r :: back, nextId := p.nextId + 1, testedLimit := p.waitLimit,
            counts := { p.counts with dropped := bump16 p.counts.dropped } }.setQuarter q'
              ⟨.replaced, now⟩).setQuarter q ⟨.waiting, now⟩
          old.follow = false ∨ FirstBlowWaits v →
          exec .minuteEvent s = .next (if old.follow then followed old.id .dropped v else v)) ∧
        (s.player.play ≠ none ∨ s.player.queue = [] →
          s.slots[i].state ≠ .ready ∨ (8 ≤ s.player.queue.length ∧ ∀ x ∈ s.player.queue, x.isQuarter = false) →
          let v := t.onPlayer fun p => ({ p with
            nextId := p.nextId + 1, counts := { p.counts with dropped := bump16 p.counts.dropped },
            testedLimit := if p.queue = [] then p.testedLimit else p.waitLimit,
            failing := if p.queue = [] then none else p.failing }).setQuarter q ⟨.ended .dropped, now⟩
          follow = false ∨ FirstBlowWaits v →
          exec .minuteEvent s = .next (if follow then followed s.player.nextId .dropped v else v)) ∧
        (∀ x : TuneStep, s.slots[i].state = .ready → TuneFree r x s →
          exec .minuteEvent s = .next ((tuneBegun r x t).onPlayer fun p => p.setQuarter q ⟨.playing, now⟩)))) ∧
  (∀ (s : State) (p : Play) (t : Nat) (x : TuneStep), s.player.play = some p → p.nextAt = some t →
      s.slots[p.slot].written[p.stepIdx]? = some x →
      let next := stepAfter p s.slots[p.slot].written t x
      let due : Int := s.now - ((s.timer : Int) - t)
      (t ≤ s.timer → x.bells = [] → exec .tuneStepBegin s = .next (s.onPlayer fun q => { q with play := some next })) ∧
      (t ≤ s.timer → s.strikes = [] → x.bells.length ≤ 32 →
        exec .tuneStepBegin s =
          .next ((stepBlows x.bells due p.number s).onPlayer fun q => { q with
            play := some { next with counts := { p.counts with posted := p.counts.posted + x.bells.length } } })) ∧
      (∀ b : BellNo, t ≤ s.timer → x.bells = [b] → 32 ≤ s.strikes.length →
        exec .tuneStepBegin s =
          .next ((s.onBellCount b fun c => { c with withheld := bump16 c.withheld }).onPlayer fun q => { q with
            play := some { next with counts := { p.counts with withheld := p.counts.withheld + 1 } } })) ∧
      (s.timer < t → exec .tuneStepBegin s = .next s))

/-- A play that has run its play time completes, and TUNE STOP stops it where it stands: its waiting strikes leave the
list, the TUNE marks of its bell set are cleared, and the outcome is counted; a station source receives COMPLETE,
unless it asked for the stop itself; a quarter source sets its entry of the quarter plan to the outcome at the local
time; and with the follow flag the hour run that awaits the play goes to GAP for the hour-follow gap on COMPLETED, and
at once to its start (log 54) with a gap of 0 and on STOPPED, a run that awaits another or none standing. PLAY
COMPLETE before the play time changes nothing (log 4). With no play TUNE STOP is refused NO SUCH, and of another
station's play without INSTALL NOT OWNER. A bell of CLOCK that no other mark holds is released: the head of its
pending list is granted, bell by bell. (No request waits, a waiting head is a station's, not that of the request, and
the first blow of an hour run that starts waits; a quarter's entry is set whatever has set it meanwhile: log 42.) -/
def Obligations.PlayEnds : Prop :=
  ∀ (s : State),
    (∀ (p : Play), s.player.play = some p → s.player.queue = [] →
      (∀ b ∈ p.bellSet, s.bells[b].waiting = [] ∨ s.marks[b].tune = true ∧ MarkHead b s) →
      let t := forAll p.bellSet (fun b (u : State) => released b (u.onMarks b fun m => { m with tune := false }))
        { s with strikes := s.strikes.filter fun x => x.source ≠ .tune p.number }
      let counts := { p.counts with
        removed := p.counts.removed + (s.strikes.filter fun x => x.source = .tune p.number).length }
      let told := fun (o : TuneOutcome) (u : State) => match p.source with
        | .station n tag => notifyOne n (.complete tag (.tune o p.slot (some (p.number, counts)))) u
        | _ => u
      let noted := fun (o : TuneOutcome) (u : State) => match p.source with
        | .quarter q => u.onPlayer fun x => x.setQuarter q ⟨.ended o, some s.tb.loc⟩
        | _ => u
      let heeded := fun (o : TuneOutcome) (u : State) => if p.follow then followed p.reqId o (noted o u) else noted o u
      (p.startTimer + s.slots[p.slot].playTime p.repeats ≤ s.timer →
        let completed := t.onPlayer fun q => { q with
          play := none, failing := none, counts := { q.counts with completed := bump16 q.counts.completed } }
        p.follow = false ∨ 0 < s.plan.gap ∨ FirstBlowWaits completed →
        exec .playComplete s = .next (told .completed (heeded .completed completed))) ∧
      (s.timer < p.startTimer + s.slots[p.slot].playTime p.repeats → exec .playComplete s = .next s) ∧
      (∀ h : Head, Ready h s → s.rights[h.station].ring = true →
        (∀ b ∈ p.bellSet, s.bells[b].waiting.head?.map Claim.claimant ≠ some (.station h.station)) →
        let stopped := t.onPlayer fun q => { q with
          play := none, failing := none, counts := { q.counts with stopped := bump16 q.counts.stopped } }
        p.follow = false ∨ FirstBlowWaits stopped →
        ((∃ tag, p.source = .station h.station tag) ∨ (∃ k, p.source = .schedule k) ∨ (∃ q, p.source = .quarter q) →
          exec (.tuneStop h) s =
            .next (answered h (.done false (.tuneStop p.number counts)) .nothing (heeded .stopped stopped))) ∧
        (∀ (n : Station) (tag : Byte), p.source = .station n tag → n ≠ h.station → s.rights[h.station].install = true →
          exec (.tuneStop h) s =
            .next (answered h (.done false (.tuneStop p.number counts)) .nothing
              (told .stopped (heeded .stopped stopped)))))) ∧
    (∀ h : Head, Ready h s → s.rights[h.station].ring = true →
      (s.player.play = none → exec (.tuneStop h) s = .next (answered h (refuse .noSuch) .nothing s)) ∧
      (∀ (p : Play) (n : Station) (tag : Byte), s.player.play = some p → p.source = .station n tag → n ≠ h.station →
        s.rights[h.station].install = false →
        exec (.tuneStop h) s = .next (answered h (refuse .notOwner) .nothing s)))

/-! ### Swings (06) -/

/-- SWING START of a present bell with a DOWN drive and no sequence: by the station that holds it, on its behalf; by a
station with RING on a bell held by CLOCK, without behalf. The bell goes to SWING, the source and the stop time asked
for are set, and the reply is QUEUED; with no pulse in flight on the bell's hammer the drive goes to LIFT with a lift
wait of 3 s, and with one it stays DOWN with its grant waiting. A swing under way on no station's behalf, or on the
requester's, is extended to the later of the two stop times, none being later than any; one that is coming to its end
is BUSY. A SWING entry that fires in a window for SCHEDULED skips a start of each drive of its bells, counted;
otherwise it passes over a bell that is absent or has no drive, extends a drive in LIFT to RINGING or with a claim
that waits, and skips a start of one in STOPPING to DROP. A bell at rest it claims for SWING without behalf: held by
CLOCK it is granted and its drive goes to LIFT, or in sequence the claim waits at the end of the pending list, the
drive's source and stop time set in both; a bell that a station holds counts a skipped claim, and one that SWING
holds, its grant waiting on a hammer pulse, is extended. A bell with no drive is refused NO SUCH, a bell held by
another station OWNED with that station. The hammer position CLEAR takes a drive in LIFT to QUEUED with its request at
the end of the gate's queue; in any other state, and in a stopped part, only the reading is kept, a level (logs 13 and
4). (Supply limit holds the gate, and no head waits.) -/
def Obligations.SwingStartsAndLifts : Prop :=
  (∀ (h : Head) (b : BellNo) (duration : Option Nat) (s : State), Ready h s →
      let asked : Option Int := duration.map fun m => (s.now + (clamp 1 60 m : Nat) * 60000 + 59999) / 60000 * 60000
      let clamped := duration.any fun m => outside 1 60 m
      (s.driveOf b = none →
        exec (.swingStart h (b.val + 1) duration) s = .next (answered h (refuse .noSuch) .nothing s)) ∧
      (∀ (d : DriveNo) (f : Option Station), s.driveOf b = some d → s.drives[d].bell = some b →
        s.bells[b].present = true →
        s.drives[d].state = .down → s.drives[d].claimWaiting = none → s.drives[d].jog = none →
        s.inSequence b = false → s.leases[h.station].barred = false → NoHeads s →
        Unwatched (.bell b) s →
        (s.bells[b].holder = .station h.station ∧ f = some h.station ∧ s.leases[h.station].lease ≠ .idle) ∨
          (s.bells[b].holder = .clock ∧ f = none ∧ s.rights[h.station].ring = true) →
        exec (.swingStart h (b.val + 1) duration) s =
          .next (answered h (.queued clamped) .nothing
            ((s.onBell b fun x => { x with holder := .swing, behalf := f }).onDrive d fun x =>
              let y := { x with source := .station h.station h.tag, claimWaiting := none, stopTime := asked }
              if s.hammers[b].pulse = none then { y with state := .lift, deadline := some (s.timer + 3000) }
              else { y with grantWaiting := true }))) ∧
      (∀ d : DriveNo, s.driveOf b = some d → s.bells[b].present = true → s.bells[b].holder = .swing →
        s.bells[b].behalf = some h.station ∨ s.rights[h.station].ring = true →
        (s.drives[d].state = .lift ∨ s.drives[d].state = .queued ∨ s.drives[d].state = .kick ∨
          s.drives[d].state = .rise ∨
            s.drives[d].state = .ringing →
          let stop : Option Int := match s.drives[d].stopTime, asked with
            | some x, some y => some (max x y)
            | _, _ => none
          exec (.swingStart h (b.val + 1) duration) s =
            .next (answered h (.done clamped (.swingExtended stop)) .nothing
              (s.onDrive d fun x => { x with stopTime := stop }))) ∧
        (s.drives[d].state = .stopping ∨ s.drives[d].state = .settle ∨ s.drives[d].state = .drop →
          exec (.swingStart h (b.val + 1) duration) s = .next (answered h (refuse .busy) .nothing s))) ∧
      (∀ (d : DriveNo) (n : Station), s.driveOf b = some d → s.bells[b].present = true → n ≠ h.station →
        s.bells[b].holder = .station n → s.drives[d].claimWaiting = none → s.rights[h.station].ring = true →
        s.leases[h.station].barred = false →
        exec (.swingStart h (b.val + 1) duration) s = .next (answered h (.refused .owned (.station n)) .nothing s))) ∧
  (∀ (d : DriveNo) (s : State),
      let t := s.onPins fun p => { p with hammerPos := put p.hammerPos d .clear }
      (s.running = true → s.drives[d].state = .lift → s.gate.limit = true → NoHeads s →
        (∀ r ∈ s.gate.queue, r.who ≠ .drive d) →
        exec (.hammerPositionClear d) s =
          .next ((t.onDrive d fun x => { x with state := .queued, deadline := none }).onGate fun g =>
            { g with queue := g.queue ++ [⟨.drive d, s.timer⟩] })) ∧
      (s.running = false ∨ s.drives[d].state ≠ .lift → exec (.hammerPositionClear d) s = .next t)) ∧
  (∀ (k : EntryNo) (e : Entry) (bells : List BellNo) (duration : Nat) (s : State), FiresAlone k e s →
      e.action = .swing bells duration → NoHeads s →
      let t := (firedAlone k e s).onPlayer fun p => { p with failing := none }
      let asked : Int := (s.now + (duration : Int) * 60000 + 59999) / 60000 * 60000
      let moves := fun x : Drive => x.claimWaiting ≠ none ∨ x.state = .lift ∨ x.state = .queued ∨ x.state = .kick ∨
        x.state = .rise ∨ x.state = .ringing
      let ends := fun x : Drive => x.state = .stopping ∨ x.state = .settle ∨ x.state = .drop
      let extended := fun x : Drive => { x with stopTime := x.stopTime.map (max asked) }
      let skips := fun x : Drive => { x with skipped := bump16 x.skipped }
      let named := fun d : DriveNo => ∃ b ∈ bells, s.driveOf b = some d
      (t.silenced .scheduled = true →
        ∃ u : State, exec .minuteEvent s = .next u ∧ u = { t with drives := u.drives } ∧
          ∀ d : DriveNo, u.drives[d] = if named d then skips s.drives[d] else s.drives[d]) ∧
      (t.silenced .scheduled = false →
        (∀ b ∈ bells, s.bells[b].present = true → ∀ d ∈ s.driveOf b, moves s.drives[d] ∨ ends s.drives[d]) →
        ∃ u : State, exec .minuteEvent s = .next u ∧ u = { t with drives := u.drives } ∧
          ∀ d : DriveNo, u.drives[d] =
            if ∃ b ∈ bells, s.driveOf b = some d ∧ s.bells[b].present = true then
              (if moves s.drives[d] then extended s.drives[d] else skips s.drives[d])
            else s.drives[d]) ∧
      (∀ (b : BellNo) (d : DriveNo), t.silenced .scheduled = false → bells = [b] → s.driveOf b = some d →
        s.bells[b].present = true → s.drives[d].state = .down → s.drives[d].claimWaiting = none →
        (s.bells[b].holder = .clock → s.inSequence b = false → s.drives[d].jog = none → Unwatched (.bell b) s →
          exec .minuteEvent s =
            .next ((t.onBell b fun x => { x with holder := .swing, behalf := none }).onDrive d fun x =>
              let y := { x with source := .schedule k, stopTime := some asked }
              if s.hammers[b].pulse = none then { y with state := .lift, deadline := some (s.timer + 3000) }
              else { y with grantWaiting := true })) ∧
        (s.bells[b].holder = .clock → s.inSequence b = true → (∀ c ∈ s.bells[b].waiting, c.claimant ≠ .swing) →
          exec .minuteEvent s =
            .next ((t.onBell b fun x => { x with
              waiting := x.waiting ++ [⟨.swing, .entry k, none, none, s.timer⟩] }).onDrive d fun x => { x with
                source := .schedule k, stopTime := some asked, claimWaiting := some (.entry k) })) ∧
        (∀ n : Station, s.bells[b].holder = .station n →
          exec .minuteEvent s = .next (t.onBell b fun x => { x with skipped := bump16 x.skipped })) ∧
        (s.bells[b].holder = .swing → exec .minuteEvent s = .next (t.onDrive d extended))))

/-- The drive's DOWN at the end of a swing: the bell goes from SWING to the station of its behalf, which is told BELL
GRANTED, claims that wait going on waiting; or, without behalf, to CLOCK where no claim waits or a sequence marks it,
and otherwise to the head of its pending list, a station's; a station source is told COMPLETE with its cause, and the
outcome fields return to their start values. So it is when ENGAGED is read in DROP, when the drop wait runs out (DROP
FAULT), and when the lift wait runs out (LIFT FAULT, the cause): both faults put an OK hammer of the bell at FAULT and
send FAULT to all stations. A wait that has not run out changes nothing (log 4). (BELL GRANTED to the behalf carries
no tag: log 26; engaged in the outcome of a LIFT FAULT is the sensor's reading: log 33.) -/
def Obligations.ReachingDownPassesTheBellOn : Prop :=
  ∀ (d : DriveNo) (b : BellNo) (s : State), s.running = true → s.drives[d].bell = some b →
    s.driveOf b = some d → s.drives[d].jog = none → s.bells[b].holder = .swing →
    s.bells[b].behalf ≠ none ∨ s.inSequence b = true ∨ StationHead b s → NoHeads s → Unwatched (.bell b) s →
    let passed := fun (cause : SwingCause) (engaged : Bool) (u : State) =>
      let v := (match s.bells[b].behalf with
        | some n => notifyOne n (.bellGranted b none .swingEnded)
            (u.onBell b fun x => { x with holder := .station n, behalf := none })
        | none =>
          if s.bells[b].waiting = [] ∨ s.inSequence b = true then u.onBell b fun x => { x with holder := .clock }
          else headGranted b u).onDrive d fun x => { x with
          state := .down, deadline := none, cause := .none, source := .none, stopTime := none, pPrev := 400,
            inBand := 0,
          highestKick := none }
      match s.drives[d].source with
      | .station n tag => notifyOne n (.complete tag (.swing b cause engaged false)) v
      | _ => v
    let faulted := fun (c : HammerCause) (u : State) =>
      u.onHammer b fun x => if x.ok then { x with ok := false, cause := c } else x
    (s.drives[d].state = .drop →
      exec (.hammerPositionEngaged d) s =
        .next (passed s.drives[d].cause true (s.onPins fun p => { p with hammerPos := put p.hammerPos d .engaged }))) ∧
    (∀ t : Nat, s.drives[d].state = .drop → s.drives[d].deadline = some t → t ≤ s.timer →
      exec (.dropWaitExpiry d) s =
        .next (passed s.drives[d].cause false (faulted .drop (notifyAll (.fault (.drive d (some b) .dropFault)) s)))) ∧
    (∀ t : Nat, s.drives[d].state = .lift → s.drives[d].deadline = some t → t ≤ s.timer →
      exec (.liftWaitExpiry d) s =
        .next (passed .liftFault (s.pins.hammerPos[d] == .engaged)
          (faulted .lift (notifyAll (.fault (.drive d (some b) .liftFault)) s)))) ∧
    (∀ t : Nat, s.drives[d].deadline = some t → s.timer < t →
      exec (.dropWaitExpiry d) s = .next s ∧ exec (.liftWaitExpiry d) s = .next s)

/-- With the other contactor open, and open for the dead time, a crossing in RISE or RINGING closes the contactor of
its direction for the law's width, p = p_prev + 4 × (target − last peak) held to 0 … 800 ms; in KICK until the next
peak; in STOPPING with the brake the other direction's for 300 ms; in the other states it closes none. (No pulse of an
earlier crossing is still under way; what one does then is log 18's.) -/
def Obligations.CrossingsPulseByTheLaw : Prop :=
  ∀ (d : DriveNo) (dir : Direction) (s : State), s.running = true → s.drives[d].pulse = none →
    let x := s.drives[d]
    let p : Nat := (max 0 (min 800 ((x.pPrev : Int) + 4 * ((x.target : Int) - (x.lastPeak.getD 0 : Nat))))).toNat
    let fed : Drive := { x with sensorDeadline := some (s.timer + 4000) }
    let side := fun (o : Direction) (y : Drive) => match o with
      | .forward => { y with fwd := { y.fwd with closed := true } }
      | .reverse => { y with rev := { y.rev with closed := true } }
    let mayClose := fun o : Direction => match o with
      | .forward => x.rev.closed = false ∧ x.rev.lastOpened + x.deadTime ≤ s.timer
      | .reverse => x.fwd.closed = false ∧ x.fwd.lastOpened + x.deadTime ≤ s.timer
    (x.state = .kick → mayClose dir →
      exec (.angleCrossing d dir) s =
        .next (s.onDrive d fun _ => { side dir fed with lastDir := some dir, pulse := some ⟨dir, none, true⟩ })) ∧
    (x.state = .rise ∨ x.state = .ringing → mayClose dir → 0 < p →
      exec (.angleCrossing d dir) s =
        .next (s.onDrive d fun _ => { side dir fed with
          pPrev := p, lastDir := some dir, pulse := some ⟨dir, some (s.timer + p), true⟩ })) ∧
    (x.state = .rise ∨ x.state = .ringing → p = 0 →
      exec (.angleCrossing d dir) s = .next (s.onDrive d fun _ => { fed with pPrev := 0 })) ∧
    (x.state = .stopping → x.brake = true → mayClose (opposite dir) →
      exec (.angleCrossing d dir) s =
        .next (s.onDrive d fun _ => { side (opposite dir) fed with
          lastDir := some (opposite dir), pulse := some ⟨opposite dir, some (s.timer + 300), true⟩ })) ∧
    (x.state = .stopping → x.brake = false → exec (.angleCrossing d dir) s = .next (s.onDrive d fun _ => fed)) ∧
    (x.state = .down ∨ x.state = .lift ∨ x.state = .queued ∨ x.state = .settle ∨ x.state = .drop →
      exec (.angleCrossing d dir) s = .next s)

/-- A peak, with no head waiting: it ends a pulse under way, whose contactor opens; in KICK below 30° it raises the
highest peak and from 30° to 169° takes the drive to RISE; in RISE it counts in-band peaks and the fourth takes the
drive to RINGING; in KICK, RISE and RINGING one of 170° or more trips: both contactors open, trips rises, FAULT goes
to all stations, the drive is in STOPPING with cause TRIP; in STOPPING one below the rest angle takes it to SETTLE,
and one of 170° or more adds to trips, sends the same FAULT and opens a brake pulse. In the states at rest it is only
noted. -/
def Obligations.PeaksMoveTheDrive : Prop :=
  ∀ (d : DriveNo) (a : Nat) (s : State), s.running = true → NoHeads s →
    let x := s.drives[d]
    let openAt := fun c : Contactor => if c.closed then (⟨false, s.timer⟩ : Contactor) else c
    let seen : Drive := match x.pulse with
      | none => { x with lastPeak := some a }
      | some ⟨.forward, _, _⟩ => { x with lastPeak := some a, pulse := none, fwd := openAt x.fwd }
      | some ⟨.reverse, _, _⟩ => { x with lastPeak := some a, pulse := none, rev := openAt x.rev }
    let inBand := if a ≤ x.target + 5 ∧ x.target ≤ a + 5 then x.inBand + 1 else 0
    (x.state = .kick → a < 30 →
      exec (.anglePeak d a) s =
        .next (s.onDrive d fun _ => { seen with highestKick := some (max a (x.highestKick.getD 0)) })) ∧
    (x.state = .kick → 30 ≤ a → a < 170 →
      exec (.anglePeak d a) s =
        .next (s.onDrive d fun _ => { seen with
          highestKick := some (max a (x.highestKick.getD 0)), state := .rise, pPrev := 400, inBand := 0,
          deadline := none })) ∧
    (x.state = .rise → a < 170 →
      exec (.anglePeak d a) s =
        .next (s.onDrive d fun _ => { seen with inBand := inBand, state := if 4 ≤ inBand then .ringing else .rise })) ∧
    (x.state = .ringing → a < 170 → exec (.anglePeak d a) s = .next (s.onDrive d fun _ => seen)) ∧
    (x.state = .kick ∨ x.state = .rise ∨ x.state = .ringing → 170 ≤ a →
      exec (.anglePeak d a) s =
        .next ((notifyAll (.fault (.drive d x.bell (.trip a))) s).onDrive d (fun _ => { seen with
            state := .stopping, cause := .trip, fwd := openAt x.fwd, rev := openAt x.rev, deadline := none })
          |>.onDriveCount d fun c => { c with trips := bump16 c.trips })) ∧
    (x.state = .stopping → a < 170 → a < x.rest →
      exec (.anglePeak d a) s =
        .next (s.onDrive d fun _ => { seen with
          state := .settle, fwd := openAt x.fwd, rev := openAt x.rev, deadline := some (s.timer + x.settle * 1000),
          sensorDeadline := none })) ∧
    (x.state = .stopping → a < 170 → x.rest ≤ a → exec (.anglePeak d a) s = .next (s.onDrive d fun _ => seen)) ∧
    (x.state = .stopping → 170 ≤ a →
      exec (.anglePeak d a) s =
        .next ((notifyAll (.fault (.drive d x.bell (.trip a))) s).onDrive d (fun _ => { seen with
            fwd := openAt x.fwd, rev := openAt x.rev })
          |>.onDriveCount d fun c => { c with trips := bump16 c.trips })) ∧
    (x.state = .down ∨ x.state = .lift ∨ x.state = .queued ∨ x.state = .settle ∨ x.state = .drop →
      exec (.anglePeak d a) s = .next (s.onDrive d fun _ => seen))

/-- A pulse at its planned end opens its contactor; a delayed pulse and a jog at its start close theirs when the other
contactor is open and the dead time has passed, unless the pulse would last less than 50 ms; a jog at its end opens
its contactor. The first kick timeout with a highest peak of 10° or more runs the kick timer once more; without one,
and the second timeout, fail the start: both contactors open, start fails rises, FAULT goes to all stations, and the
drive goes to DROP with a drop wait of 3 s. (The second run lasts the kick time that the first began with, log 23.)
Sensor loss in KICK, RISE, RINGING or STOPPING goes to SETTLE with twice the settle time. The settle end goes to DROP.
A timer that has not run out changes nothing (log 4). -/
def Obligations.SwingTimers : Prop :=
  (∀ (d : DriveNo) (s : State),
      let x := s.drives[d]
      (∀ (o : Direction) (e : Nat), x.pulse = some ⟨o, some e, true⟩ →
        (e ≤ s.timer → x.fwd.closed = decide (o = .forward) → x.rev.closed = decide (o = .reverse) →
          exec (.swingPulseEnd d) s = .next (s.onDrive d fun _ => match o with
            | .forward => { x with fwd := ⟨false, s.timer⟩, pulse := none }
            | .reverse => { x with rev := ⟨false, s.timer⟩, pulse := none })) ∧
        (s.timer < e → exec (.swingPulseEnd d) s = .next s)) ∧
      (∀ e : Option Nat, s.running = true → x.jog = none → x.pulse = some ⟨.forward, e, false⟩ →
        (x.rev.closed = false → x.rev.lastOpened + x.deadTime ≤ s.timer → (∀ t, e = some t → s.timer + 50 ≤ t) →
          exec (.deadTimeEnd d) s = .next (s.onDrive d fun _ => { x with
            fwd := { x.fwd with closed := true }, lastDir := some .forward, pulse := some ⟨.forward, e, true⟩ })) ∧
        (∀ t, e = some t → x.rev.closed = false → x.rev.lastOpened + x.deadTime ≤ s.timer → t < s.timer + 50 →
          exec (.deadTimeEnd d) s = .next (s.onDrive d fun _ => { x with pulse := none })) ∧
        (x.rev.closed = true ∨ s.timer < x.rev.lastOpened + x.deadTime → exec (.deadTimeEnd d) s = .next s)) ∧
      (∀ e : Option Nat, s.running = true → x.jog = none → x.pulse = some ⟨.reverse, e, false⟩ →
        (x.fwd.closed = false → x.fwd.lastOpened + x.deadTime ≤ s.timer → (∀ t, e = some t → s.timer + 50 ≤ t) →
          exec (.deadTimeEnd d) s = .next (s.onDrive d fun _ => { x with
            rev := { x.rev with closed := true }, lastDir := some .reverse, pulse := some ⟨.reverse, e, true⟩ })) ∧
        (∀ t, e = some t → x.fwd.closed = false → x.fwd.lastOpened + x.deadTime ≤ s.timer → t < s.timer + 50 →
          exec (.deadTimeEnd d) s = .next (s.onDrive d fun _ => { x with pulse := none })) ∧
        (x.fwd.closed = true ∨ s.timer < x.fwd.lastOpened + x.deadTime → exec (.deadTimeEnd d) s = .next s)) ∧
      (∀ j : Jog, x.jog = some j → x.pulse = none →
        (s.running = true → j.dir = .reverse → j.closed = false → j.start ≤ s.timer → x.fwd.closed = false →
          x.fwd.lastOpened + x.deadTime ≤ s.timer →
          exec (.deadTimeEnd d) s = .next (s.onDrive d fun _ => { x with
            rev := { x.rev with closed := true }, jog := some { j with closed := true } })) ∧
        (s.running = true → j.dir = .forward → j.closed = false → j.start ≤ s.timer → x.rev.closed = false →
          x.rev.lastOpened + x.deadTime ≤ s.timer →
          exec (.deadTimeEnd d) s = .next (s.onDrive d fun _ => { x with
            fwd := { x.fwd with closed := true }, jog := some { j with closed := true } })) ∧
        (j.stop ≤ s.timer → j.dir = .forward → x.fwd.closed = true →
          exec (.jogEnd d) s = .next (s.onDrive d fun _ => { x with fwd := ⟨false, s.timer⟩, jog := none })) ∧
        (j.stop ≤ s.timer → j.dir = .reverse → x.rev.closed = true →
          exec (.jogEnd d) s = .next (s.onDrive d fun _ => { x with rev := ⟨false, s.timer⟩, jog := none })) ∧
        (s.timer < j.stop → exec (.jogEnd d) s = .next s))) ∧
  (∀ (d : DriveNo) (t : Nat) (s : State), s.running = true → NoHeads s →
      let x := s.drives[d]
      let openAt := fun c : Contactor => if c.closed then (⟨false, s.timer⟩ : Contactor) else c
      (x.state = .kick → x.deadline = some t → t ≤ s.timer →
        (∀ a, x.kickRun = 1 → x.highestKick = some a → 10 ≤ a →
          exec (.kickTimeout d) s = .next (s.onDrive d fun _ => { x with
            kickRun := 2, deadline := some (s.timer + x.kickLen) })) ∧
        (x.kickRun ≠ 1 ∨ (∀ a, x.highestKick = some a → a < 10) →
          exec (.kickTimeout d) s =
            .next ((notifyAll (.fault (.drive d x.bell .startFail)) s).onDrive d (fun _ => { x with
                state := .drop, cause := .startFail, fwd := openAt x.fwd, rev := openAt x.rev, pulse := none,
                deadline := some (s.timer + 3000), sensorDeadline := none })
              |>.onDriveCount d fun c => { c with startFails := bump16 c.startFails }))) ∧
      (x.state = .kick ∨ x.state = .rise ∨ x.state = .ringing ∨ x.state = .stopping → x.sensorDeadline = some t →
        t ≤ s.timer →
        exec (.sensorLossExpiry d) s =
          .next ((notifyAll (.fault (.drive d x.bell .sensorLost)) s).onDrive d fun _ => { x with
            state := .settle, cause := if x.cause = .none then .sensorLost else x.cause, fwd := openAt x.fwd,
            rev := openAt x.rev, pulse := none, deadline := some (s.timer + 2 * x.settle * 1000),
            sensorDeadline := none })) ∧
      (x.state = .settle → x.deadline = some t → t ≤ s.timer →
        exec (.settleEnd d) s = .next (s.onDrive d fun _ => { x with
          state := .drop, fwd := openAt x.fwd, rev := openAt x.rev, pulse := none,
          deadline := some (s.timer + 3000), sensorDeadline := none })) ∧
      (x.deadline = some t → s.timer < t → exec (.kickTimeout d) s = .next s ∧ exec (.settleEnd d) s = .next s) ∧
      (x.sensorDeadline = some t → s.timer < t → exec (.sensorLossExpiry d) s = .next s))

/-- A stop, of a swing that has reached its stop time with cause ENDED, and at SWING STOP with cause STOPPED, a cause
already set standing: in KICK, RISE or RINGING the swing goes to STOPPING with both contactors open; in LIFT and QUEUED
to DROP with a drop wait of 3 s, its gate request gone; a grant that waits on a hammer pulse takes the cause alone; a
claim that still waits is withdrawn from its bell's list, its record cleared, and a station that made it told COMPLETE,
not rung; a swing that is coming to its end goes on as it was. SWING STOP is allowed to the station of the swing's
behalf or whose claim waits, to a station with RING where the behalf is none, and to one with RING and INSTALL for a
swing of another station's; it is else refused NOT PERMITTED without RING and NOT OWNER with it, and of a bell at rest
NO SUCH. A stop time still to come, or none, changes nothing (log 4). (That a stop in DROP, SETTLE and STOPPING changes
nothing is log 36's; that the COMPLETE of a withdrawn claim has the sensor's reading, log 33's. SUPPLY LIMIT holds the
gate where others wait at it, and no head waits.) -/
def Obligations.SwingStops : Prop :=
  ∀ (d : DriveNo) (b : BellNo) (s : State), s.drives[d].bell = some b → s.driveOf b = some d →
    s.bells[b].present = true → NoHeads s →
    let x := s.drives[d]
    let stop := fun h : Head => exec (.swingStop h (b.val + 1)) s
    (x.state ≠ .down ∨ (x.claimWaiting = none ∧ x.grantWaiting = true) → GateHeldFor d s →
      (∀ t : Int, s.running = true → x.stopTime = some t → t ≤ s.now →
        exec (.stopTime d) s = .next (swingStopped .ended d s)) ∧
      (∀ h : Head, Ready h s → MayStop h b d s →
        stop h = .next (answered h (.done false (.swingState (stoppedSwing .stopped s.timer x).state)) .nothing
          (swingStopped .stopped d s)))) ∧
    (x.state = .down → x.claimWaiting ≠ none →
      (∀ t : Int, s.running = true → x.stopTime = some t → t ≤ s.now →
        exec (.stopTime d) s = .next (notRungTold .ended b d s (claimWithdrawn b d s))) ∧
      (∀ h : Head, Ready h s → MayStop h b d s →
        stop h = .next (notRungTold .stopped b d s
          (answered h (.done false (.swingState .down)) .nothing (claimWithdrawn b d s))))) ∧
    (∀ h : Head, Ready h s → x.state ≠ .down ∨ x.claimWaiting ≠ none ∨ x.grantWaiting = true → ¬MayStop h b d s →
      stop h = .next (answered h (refuse (if s.rights[h.station].ring then .notOwner else .notPermitted)) .nothing s)) ∧
    (∀ h : Head, Ready h s → x.state = .down → x.claimWaiting = none → x.grantWaiting = false →
      stop h = .next (answered h (refuse .noSuch) .nothing s)) ∧
    (s.running = false ∨ x.stopTime = none ∨ (∃ t : Int, x.stopTime = some t ∧ s.now < t) →
      exec (.stopTime d) s = .next s)

/-- JOG needs INSTALL (without the key), the bell's hold by the station and a DOWN drive. With none in flight the jog
starts when the dead time since the opposite contactor opened has passed, closing its contactor at once when it has;
in the same direction it moves the end of the one in flight; in the other it is an interlock: both contactors open,
the jog ends, interlocks rises, and the reply is REFUSED INTERLOCK. The duration is clamped to 50 … 2000 ms. A bell
that the station does not hold is NOT OWNER, but that the station on whose behalf SWING holds it is BUSY in LIFT (log
43). -/
def Obligations.JogMovesOrInterlocks : Prop :=
  ∀ (h : Head) (d : DriveNo) (b : BellNo) (n : Nat) (s : State), Ready h s → s.driveOf b = some d →
    s.bells[b].present = true →
    let x := s.drives[d]
    let ms := clamp 50 2000 n
    let openAt := fun c : Contactor => if c.closed then (⟨false, s.timer⟩ : Contactor) else c
    (∀ dir : Direction, s.rights[h.station].install = false →
      exec (.jog h (b.val + 1) dir n) s = .next (answered h (refuse .notPermitted) .nothing s)) ∧
    (∀ dir : Direction, s.rights[h.station].install = true → s.bells[b].holder ≠ .station h.station →
      let lifts := s.bells[b].holder = .swing ∧ s.bells[b].behalf = some h.station ∧ x.state = .lift
      (lifts → exec (.jog h (b.val + 1) dir n) s = .next (answered h (refuse .busy) .nothing s)) ∧
      (¬lifts → exec (.jog h (b.val + 1) dir n) s = .next (answered h (refuse .notOwner) .nothing s))) ∧
    (∀ dir : Direction, s.rights[h.station].install = true → s.bells[b].holder = .station h.station → x.state ≠ .down →
      exec (.jog h (b.val + 1) dir n) s = .next (answered h (refuse .busy) .nothing s)) ∧
    (s.rights[h.station].install = true → s.bells[b].holder = .station h.station → x.state = .down →
      (x.jog = none → x.rev.closed = false → x.rev.lastOpened + x.deadTime ≤ s.timer →
        exec (.jog h (b.val + 1) .forward n) s =
          .next (answered h (.done (outside 50 2000 n) (.jog s.timer (s.timer + ms))) .nothing
            (s.onDrive d fun _ => { x with
              fwd := { x.fwd with closed := true }, jog := some ⟨.forward, s.timer, s.timer + ms, h.station,
                true⟩ }))) ∧
      (x.jog = none → s.timer < x.rev.lastOpened + x.deadTime →
        let start := x.rev.lastOpened + x.deadTime
        exec (.jog h (b.val + 1) .forward n) s =
          .next (answered h (.done (outside 50 2000 n) (.jog start (start + ms))) .nothing
            (s.onDrive d fun _ => { x with jog := some ⟨.forward, start, start + ms, h.station, false⟩ }))) ∧
      (x.jog = none → x.fwd.closed = false → x.fwd.lastOpened + x.deadTime ≤ s.timer →
        exec (.jog h (b.val + 1) .reverse n) s =
          .next (answered h (.done (outside 50 2000 n) (.jog s.timer (s.timer + ms))) .nothing
            (s.onDrive d fun _ => { x with
              rev := { x.rev with closed := true }, jog := some ⟨.reverse, s.timer, s.timer + ms, h.station,
                true⟩ }))) ∧
      (x.jog = none → s.timer < x.fwd.lastOpened + x.deadTime →
        let start := x.fwd.lastOpened + x.deadTime
        exec (.jog h (b.val + 1) .reverse n) s =
          .next (answered h (.done (outside 50 2000 n) (.jog start (start + ms))) .nothing
            (s.onDrive d fun _ => { x with jog := some ⟨.reverse, start, start + ms, h.station, false⟩ }))) ∧
      (∀ j : Jog, x.jog = some j →
        exec (.jog h (b.val + 1) j.dir n) s =
          .next (answered h (.done (outside 50 2000 n) (.jog j.start (s.timer + ms))) .nothing
            (s.onDrive d fun _ => { x with jog := some { j with stop := s.timer + ms } })) ∧
        exec (.jog h (b.val + 1) (opposite j.dir) n) s =
          .next (answered h (refuse .interlock) .nothing
            ((s.onDrive d fun _ => { x with fwd := openAt x.fwd, rev := openAt x.rev, pulse := none, jog := none }).onDriveCount
              d fun c => { c with interlocks := bump16 c.interlocks }))))

/-! ### The schedule (07) -/

/-- SCHEDULE WRITE by a station with PROGRAM of an EMPTY index, or of one it owns, or with INSTALL of any, defines the
entry with its trigger and action clamped, its owner the station (INSTALL with the key for a station that has
INSTALL), last-fired none, and answers the owner and today's trigger minute; a SWING of a bell with no drive is
refused NO SUCH, an entry of another owner NOT OWNER. SCHEDULE DELETE makes the index EMPTY; of an EMPTY index it is
refused NO SUCH. Both reach the other stations, the CHANGED before the CHANGE hits of their watchers (log 57). QUIET
WRITE stores its window with its minutes clamped. -/
def Obligations.ScheduleWrites : Prop :=
  ∀ (h : Head) (k : EntryNo) (s : State), Ready h s → s.rights[h.station].program = true →
    let mine := ∀ e, s.entries[k] = some e → e.owner = .station h.station ∨ s.rights[h.station].install = true
    let owner : Owner := if s.rights[h.station].install = true ∧ h.key = true then .install else .station h.station
    (mine → ∀ (e : EntryBody) (t : Trigger) (a : Action), readTrigger e.trigger = some t →
      readAction e.action = some a →
      windowOk e.window = true → (∀ d, e.oneShot = some d → realDate d = true) →
      exec (.scheduleWrite h k.val e) s =
        .next (if s.lacksDrive a then answered h (refuse .noSuch) .nothing s
          else answered h
            (.done (triggerClamped e.trigger || actionClamped e.action)
              (.entryWritten owner (s.triggerMinute t s.tb.loc.date))) .nothing
            (written .scheduleWrite h.station (.entry k) (.entry k)
              (s.setEntry k (some ⟨e.enabled, owner, t, e.days, e.window, e.oneShot, a, none⟩))))) ∧
    (mine → s.entries[k] ≠ none →
      exec (.scheduleDelete h k.val) s =
        .next (answered h (.done false .none) .nothing
          (written .scheduleDelete h.station (.entry k) (.entry k) (s.setEntry k none)))) ∧
    (s.entries[k] = none → exec (.scheduleDelete h k.val) s = .next (answered h (refuse .noSuch) .nothing s)) ∧
    (¬mine → ∀ e : EntryBody,
      exec (.scheduleWrite h k.val e) s = .next (answered h (refuse .notOwner) .nothing s) ∧
      exec (.scheduleDelete h k.val) s = .next (answered h (refuse .notOwner) .nothing s)) ∧
    (∀ (i : Fin 8) (w : QuietWindow),
      let c : QuietWindow := { w with start := clamp 0 1439 w.start, stop := clamp 0 1439 w.stop }
      exec (.quietWrite h i.val w) s =
        .next (answered h (.done (c != w) .none) .nothing
          (announce (.quietWindow i) (.station h.station) { s with windows := put s.windows i c })))

/-- An entry with a one-shot date applies on that date and no other; one without applies on a date whose weekday is in
its days and whose month-day lies in its window, both ends included; a window from a to b with a not later than b
holds the month-days from a to b, any other those from a on and those up to b; no window holds every date. An empty
days mask without a one-shot date applies on no date and never fires. A window that ends on 02-29 holds 02-28 and not
03-01; one that starts on 02-29 holds 03-01 and not 02-28. -/
def Obligations.EntryAppliesOnItsDates : Prop :=
  ∀ (e : Entry) (d : Date), d.day ≤ 31 →
    (∀ o : Date, e.oneShot = some o → (e.applies d = true ↔ o = d)) ∧
    (e.oneShot = none → e.window = none → (e.applies d = true ↔ e.days.getLsbD (weekday d) = true)) ∧
    (∀ a b : MonthDay, e.oneShot = none → e.window = some (a, b) → a.day ≤ 31 → b.day ≤ 31 →
      let upTo := fun (x y : MonthDay) => x.month < y.month ∨ (x.month = y.month ∧ x.day ≤ y.day)
      let c : MonthDay := ⟨d.month, d.day⟩
      (upTo a b → (e.applies d = true ↔ e.days.getLsbD (weekday d) = true ∧ upTo a c ∧ upTo c b)) ∧
      (¬upTo a b → (e.applies d = true ↔ e.days.getLsbD (weekday d) = true ∧ (upTo a c ∨ upTo c b)))) ∧
    (e.oneShot = none → e.days = 0 → e.applies d = false ∧ ∀ (s : State) (m : Nat), s.fires e d m = false) ∧
    (∀ y : Nat,
      (∀ a : MonthDay, a.month < 2 ∨ (a.month = 2 ∧ a.day ≤ 28) → a.day ≤ 31 →
        inWindow (some (a, ⟨2, 29⟩)) ⟨y, 2, 28⟩ = true ∧ inWindow (some (a, ⟨2, 29⟩)) ⟨y, 3, 1⟩ = false) ∧
      (∀ b : MonthDay, 3 ≤ b.month → 1 ≤ b.day → b.day ≤ 31 →
        inWindow (some (⟨2, 29⟩, b)) ⟨y, 3, 1⟩ = true ∧ inWindow (some (⟨2, 29⟩, b)) ⟨y, 2, 28⟩ = false))

/-- R161: an enabled window from S to E contains minute m of a date D as its days and the days before say: for S
before E the minutes from S up to E of a day in its days; for E before S the minutes from S on of such a day and those
before E of the date after one; for S equal to E a whole day from S. A disabled one contains nothing. -/
def Obligations.QuietWindowContains : Prop :=
  ∀ (w : QuietWindow) (d : Date) (m : Nat),
    let today := w.days.getLsbD (weekday d) = true
    let before := w.days.getLsbD (weekday (prevDate d)) = true
    (windowContains w d m = true ↔ w.enabled = true ∧
      ((w.start < w.stop ∧ today ∧ w.start ≤ m ∧ m < w.stop) ∨
        (w.stop < w.start ∧ ((today ∧ w.start ≤ m) ∨ (before ∧ m < w.stop))) ∨
        (w.start = w.stop ∧ ((today ∧ w.start ≤ m) ∨ (before ∧ m < w.start)))))

/-! ### Floods and the gate (08) -/

/-- A circuit moves by its effective desired level: OFF and ON wanted it goes to WAITING with its request at the end
of the gate's queue when the restrike delay has passed, and to COOLING when it has not; WAITING and OFF wanted it goes
to OFF and its request leaves; ON or CLOSING and OFF wanted its contactor opens, last-open is that moment, and it is
COOLING when it has a restrike delay and OFF when it has none; else it stays. FLOOD FORCE sets the force and moves the
circuit so. FLOOD CLEAR ends a force and takes a circuit out of FAULT, its cause none and its feedback tests run
afresh, to COOLING or OFF by the delay, and moves it by its plan; with no force and no fault it changes nothing. An
absent circuit is NO SUCH. The other stations are sent CHANGED and, where they hold a CHANGE watch on the circuit, a
hit that names the request. (Supply limit holds the gate and no FIRE watch is on the circuit. Once its contactor opens
a circuit's feedback input reads absent: log 14. That a FLOOD CLEAR which changes nothing gives no CHANGE hit is the
model's choice: log 60.) -/
def Obligations.ForceMovesTheCircuit : Prop :=
  ∀ (h : Head) (c : CircuitNo) (level : Bool) (e : ExpiryBody) (s : State), Ready h s →
    s.rights[h.station].light = true →
    (s.circuits[c].present = false →
      exec (.floodForce h (c.val + 1) level e) s = .next (answered h (refuse .noSuch) .nothing s) ∧
      exec (.floodClear h (c.val + 1)) s = .next (answered h (refuse .noSuch) .nothing s)) ∧
    (s.circuits[c].present = true → s.gate.limit = true → NoFireWatch (.circuit c) s →
      let x := s.circuits[c]
      let passed : Prop := x.lastOpen + (x.restrike : Int) * 60000 ≤ s.timer
      let expiry : Expiry := match e with
        | .minutes n => .tower ((s.now + (clamp 1 1440 n : Nat) * 60000 + 59999) / 60000 * 60000)
        | .untilChange => .untilChange
      let clamped : Bool := match e with
        | .minutes n => outside 1 1440 n
        | .untilChange => false
      let told := fun r : WatchedWrite => written r h.station (.circuitForce c) (.circuit c)
      let waits := fun u : State => (u.onCircuit c fun y => { y with state := .waiting }).onGate fun g =>
        { g with queue := g.queue ++ [⟨.circuit c, s.timer⟩] }
      let leaves := fun u : State => (u.onCircuit c fun y => { y with state := .off }).onGate fun g =>
        { g with queue := g.queue.filter fun r => r.who ≠ .circuit c }
      let opens := fun u : State => (u.onCircuit c fun y => { y with
        contactor := false, lastOpen := s.timer, fbDeadline := none,
          state := if y.restrike = 0 then .off else .cooling }).onPins
          fun p => { p with feedback := put p.feedback c false }
      let goes := fun (v : CircuitState) (u : State) => u.onCircuit c fun y => { y with state := v }
      let forced := s.onCircuit c fun y => { y with force := some ⟨level, h.station, expiry⟩ }
      let cleared := s.onCircuit c fun y => { y with force := none }
      let healed := s.onCircuit c fun y => { y with force := none, cause := .none, fbFrom := s.timer }
      let force := fun (v : CircuitState) (t : State) => exec (.floodForce h (c.val + 1) level e) s =
        .next (answered h (.done clamped (.flood v expiry)) .nothing (told .floodForce t))
      let clear := fun (v : CircuitState) (t : State) => exec (.floodClear h (c.val + 1)) s =
        .next (answered h (.done false (.floodState v)) .nothing (told .floodClear t))
      let away := ∀ r ∈ s.gate.queue, r.who ≠ .circuit c
      (level = true →
        (x.state = .off → passed → away → force .waiting (waits forced)) ∧
        (x.state = .off → ¬passed → force .cooling (goes .cooling forced)) ∧
        (x.state ≠ .off → force x.state forced)) ∧
      (level = false →
        (x.state = .waiting → force .off (leaves forced)) ∧
        (x.state = .on ∨ x.state = .closing → force (if x.restrike = 0 then .off else .cooling) (opens forced)) ∧
        (x.state = .off ∨ x.state = .cooling ∨ x.state = .fault → force x.state forced)) ∧
      (x.state = .fault →
        (¬passed → clear .cooling (goes .cooling healed)) ∧
        (passed → x.planOn = false → clear .off (goes .off healed)) ∧
        (passed → x.planOn = true → away → clear .waiting (waits healed))) ∧
      (x.force ≠ none → x.planOn = false →
        (x.state = .waiting → clear .off (leaves cleared)) ∧
        (x.state = .on ∨ x.state = .closing → clear (if x.restrike = 0 then .off else .cooling) (opens cleared)) ∧
        (x.state = .off ∨ x.state = .cooling → clear x.state cleared)) ∧
      (x.force ≠ none → x.planOn = true →
        (x.state = .off → passed → away → clear .waiting (waits cleared)) ∧
        (x.state = .off → ¬passed → clear .cooling (goes .cooling cleared)) ∧
        (x.state = .cooling ∨ x.state = .waiting ∨ x.state = .closing ∨ x.state = .on → clear x.state cleared)) ∧
      (x.force = none → x.state ≠ .fault →
        exec (.floodClear h (c.val + 1)) s = .next (readBack h (.floodState x.state) s)))

/-- FLOOD PLAN WRITE and DUSK TABLE WRITE by a station with PROGRAM store their entries clamped, every entry of a run,
and send CHANGED to the other stations; they move no circuit whose plan-desired the new tables leave as it was, and
one without a force whose plan-desired they change: wanted ON, from OFF to WAITING; wanted OFF, from WAITING to OFF,
from CLOSING and ON with its contactor opened, and out of FAULT, to COOLING or OFF by the delay; a run of entries that
would pass the last is refused BAD VALUE, and the identity shown is its first index (log 28). INSTALL WRITE naming a
circuit stores its present and feedback fields and its restrike delay clamped. One that stays present judges its delay
and its feedback by the new values: ON and FAULT change nothing else; COOLING whose delay has passed goes to OFF, or
to WAITING with its request when ON is wanted; OFF and WAITING whose delay has not passed go to COOLING, WAITING with
its request withdrawn; CLOSING without feedback is ON, its 500 ms of R170 counting from there (log 14). One made
present again is COOLING or OFF by its delay and follows its plan-desired, its feedback tests running from there. Of a
circuit in OFF that is made absent the plan-desired is OFF; one that is waiting, closing, ON or forced is not made
absent: BUSY. Each install tells the other stations CHANGED and their CHANGE watches on the circuit the request. (No
FIRE watch is on the circuit, and supply limit holds the gate.) -/
def Obligations.FloodTablesAndInstalls : Prop :=
  (∀ (h : Head) (s : State), Ready h s → s.rights[h.station].program = true →
      (∀ (i : Fin 16) (b : FloodPlanBody) (on off : Trigger), readTrigger b.on = some on →
        readTrigger b.off = some off →
        windowOk b.window = true →
        let t := { s with floodPlan := put s.floodPlan i ⟨b.enabled, b.circuits, b.days, b.window, on, off⟩ }
        ((∀ c : CircuitNo, t.planLevel c = s.circuits[c].planOn) →
          exec (.floodPlanWrite h i.val b) s =
            .next (answered h (.done (triggerClamped b.on || triggerClamped b.off) .none) .nothing
              (announce (.planEntry i) (.station h.station) t))) ∧
        (∀ c : CircuitNo, Replanned c s t → ∃ u : State, exec (.floodPlanWrite h i.val b) s = .next u ∧
          PlanMoved c t u)) ∧
      (∀ (i : Fin 24) (p : SunPair),
        let q : SunPair := ⟨clamp 0 1439 p.dusk, clamp 0 1439 p.dawn⟩
        let t := { s with duskTable := put s.duskTable i q }
        (∀ c : CircuitNo, t.planLevel c = s.circuits[c].planOn) →
        exec (.duskTableWrite h i.val [p]) s =
          .next (answered h (.done (q != p) .none) .nothing (announce .duskTable (.station h.station) t))) ∧
      (∀ (i : Fin 24) (l : List SunPair) (table : Vector SunPair 24), i.val + l.length ≤ 24 →
        (∀ j : Fin 24, j < i ∨ i.val + l.length ≤ j.val → table[j] = s.duskTable[j]) →
        (∀ (j : Fin 24) (p : SunPair), i ≤ j → l[j.val - i.val]? = some p →
          table[j] = ⟨clamp 0 1439 p.dusk, clamp 0 1439 p.dawn⟩) →
        let t := { s with duskTable := table }
        ((∀ c : CircuitNo, t.planLevel c = s.circuits[c].planOn) →
          exec (.duskTableWrite h i.val l) s =
            .next (answered h (.done (l.any fun p => decide (1439 < p.dusk) || decide (1439 < p.dawn)) .none) .nothing
              (announce .duskTable (.station h.station) t))) ∧
        (∀ c : CircuitNo, Replanned c s t → ∃ u : State, exec (.duskTableWrite h i.val l) s = .next u ∧
          PlanMoved c t u)) ∧
      (∀ (n : Nat) (l : List SunPair), 24 < n + l.length →
        exec (.duskTableWrite h n l) s = .next (answered h (badValue n) .nothing s))) ∧
  (∀ (h : Head) (c : CircuitNo) (r : Sys2Proof.CircuitInstall) (s : State), Ready h s → MayInstall h s →
      s.circuits[c].present = true → s.gate.limit = true → NoFireWatch (.circuit c) s →
      let x := s.circuits[c]
      let y : Circuit := { x with
        present := r.present, restrike := clamp 0 15 r.restrike, fbPresent := r.fbPresent,
        fbFrom := if r.fbPresent = true ∧ x.fbPresent = false then s.timer else x.fbFrom }
      let told := written .installCircuit h.station (.circuitInstall c) (.circuit c)
      (r.present = false → x.state = .waiting ∨ x.state = .closing ∨ x.state = .on ∨ x.force ≠ none →
        exec (.installWriteCircuit h (c.val + 1) r) s = .next (answered h (refuse .busy) .nothing s)) ∧
      (r.present = false → x.state = .off → x.force = none →
        exec (.installWriteCircuit h (c.val + 1) r) s =
          .next (answered h (.done (outside 0 15 r.restrike) .none) .nothing
            (told (s.onCircuit c fun _ => { y with cause := .none, planOn := false })))) ∧
      (r.present = true →
        let passed : Prop := x.lastOpen + (y.restrike : Int) * 60000 ≤ s.timer
        let becomes := fun t : State => exec (.installWriteCircuit h (c.val + 1) r) s =
          .next (answered h (.done (outside 0 15 r.restrike) .none) .nothing (told t))
        (x.state = .on ∨ x.state = .fault ∨ (x.state = .closing ∧ r.fbPresent = true) ∨ (x.state = .cooling ∧ ¬passed) ∨
            ((x.state = .off ∨ x.state = .waiting) ∧ passed) →
          becomes (s.onCircuit c fun _ => y)) ∧
        (x.state = .closing → r.fbPresent = false →
          becomes (s.onCircuit c fun _ => { y with state := .on, fbDeadline := none, fbFrom := s.timer })) ∧
        (x.state = .cooling → passed → x.desired = false → becomes (s.onCircuit c fun _ => { y with state := .off })) ∧
        (x.state = .cooling → passed → x.desired = true → (∀ q ∈ s.gate.queue, q.who ≠ .circuit c) →
          becomes ((s.onCircuit c fun _ => { y with state := .waiting }).onGate fun g =>
            { g with queue := g.queue ++ [⟨.circuit c, s.timer⟩] })) ∧
        (x.state = .off → ¬passed → becomes (s.onCircuit c fun _ => { y with state := .cooling })) ∧
        (x.state = .waiting → ¬passed → becomes ((s.onCircuit c fun _ => { y with state := .cooling }).onGate fun g =>
          { g with queue := g.queue.filter fun q => q.who ≠ .circuit c })))) ∧
  (∀ (h : Head) (c : CircuitNo) (r : Sys2Proof.CircuitInstall) (s : State), Ready h s → MayInstall h s →
      s.circuits[c].present = false → r.present = true → s.circuits[c].planOn = false → s.circuits[c].force = none →
      s.gate.limit = true → NoFireWatch (.circuit c) s → (∀ q ∈ s.gate.queue, q.who ≠ .circuit c) →
      let y : Circuit := { s.circuits[c] with
        present := true, restrike := clamp 0 15 r.restrike, fbPresent := r.fbPresent, fbFrom := s.timer }
      let wanted := (s.onCircuit c fun _ => y).planLevel c
      let passed : Prop := y.lastOpen + (y.restrike : Int) * 60000 ≤ s.timer
      let becomes := fun t : State => exec (.installWriteCircuit h (c.val + 1) r) s =
        .next (answered h (.done (outside 0 15 r.restrike) .none) .nothing
          (written .installCircuit h.station (.circuitInstall c) (.circuit c) t))
      (¬passed → becomes (s.onCircuit c fun _ => { y with planOn := wanted, state := .cooling })) ∧
      (passed → wanted = false → becomes (s.onCircuit c fun _ => { y with state := .off })) ∧
      (passed → wanted = true →
        becomes ((s.onCircuit c fun _ => { y with planOn := true, state := .waiting }).onGate fun g =>
        { g with queue := g.queue ++ [⟨.circuit c, s.timer⟩] })))

/-- Timers and inputs of a present circuit that no station watches, under a supply limit: at the end of a minutes
force the force goes, announced by the part, and the circuit moves by its plan: wanted ON, from OFF to WAITING or
COOLING by the delay; wanted OFF, from WAITING to OFF and from CLOSING and ON with its contactor opened; the end of
the restrike delay takes a COOLING circuit to OFF, or to WAITING with a request when ON is wanted; current in CLOSING
makes it ON; a wait with no current is FAULT, cause NO FEEDBACK; 500 ms without current while ON is FAULT, cause
FEEDBACK LOST; 2 s of current with the contactor open is FAULT, cause STUCK. The first two faults open the contactor
at that moment, and each sends FAULT to all stations. (Each feedback command is the event with its time already run,
the reading it leaves is kept, absent from an opening on, and the times are held to the start of the tests: log 14.
The wait of CLOSING is ended by its own event alone: log 31. An event before its time, or out of its place, changes
nothing else: log 4.) -/
def Obligations.CircuitEvents : Prop :=
  ∀ (c : CircuitNo) (s : State), s.running = true → s.circuits[c].present = true → s.gate.limit = true →
    Unwatched (.circuit c) s →
    let x := s.circuits[c]
    let lit := fun v : Bool => s.onPins fun p => { p with feedback := put p.feedback c v }
    let fault := fun cause : CircuitCause =>
      notifyAll (.fault (.circuit c cause x.force)) ((lit false).onCircuit c fun _ => { x with
        state := .fault, cause := cause, contactor := false, lastOpen := s.timer, fbDeadline := none })
    let passed : Prop := x.lastOpen + (x.restrike : Int) * 60000 ≤ s.timer
    let away := ∀ r ∈ s.gate.queue, r.who ≠ .circuit c
    (∀ (t : Int) (n : Station) (l : Bool), x.force = some ⟨l, n, .tower t⟩ →
      (t ≤ s.now →
        let ends := fun u : State => exec (.forceExpiry c) s = .next (announce (.circuitForce c) .part u)
        let goes := fun v : CircuitState => s.onCircuit c fun _ => { x with force := none, state := v }
        (x.planOn = true → x.state = .on ∨ x.state = .closing ∨ x.state = .waiting ∨ x.state = .cooling ∨
          x.state = .fault → ends (goes x.state)) ∧
        (x.planOn = true → x.state = .off → passed → away →
          ends ((goes .waiting).onGate fun g => { g with queue := g.queue ++ [⟨.circuit c, s.timer⟩] })) ∧
        (x.planOn = true → x.state = .off → ¬passed → ends (goes .cooling)) ∧
        (x.planOn = false → x.state = .off ∨ x.state = .cooling ∨ x.state = .fault → ends (goes x.state)) ∧
        (x.planOn = false → x.state = .waiting →
          ends ((goes .off).onGate fun g => { g with queue := g.queue.filter fun r => r.who ≠ .circuit c })) ∧
        (x.planOn = false → x.state = .on ∨ x.state = .closing →
          ends ((lit false).onCircuit c fun _ => { x with
            force := none, contactor := false, lastOpen := s.timer, fbDeadline := none,
            state := if x.restrike = 0 then .off else .cooling }))) ∧
      (s.now < t → exec (.forceExpiry c) s = .next s)) ∧
    (x.state = .cooling → x.lastOpen + (x.restrike : Int) * 60000 ≤ s.timer →
      (x.desired = false → exec (.restrikeEnd c) s = .next (s.onCircuit c fun _ => { x with state := .off })) ∧
      (x.desired = true → (∀ r ∈ s.gate.queue, r.who ≠ .circuit c) →
        exec (.restrikeEnd c) s =
          .next ((s.onCircuit c fun _ => { x with state := .waiting }).onGate fun g =>
            { g with queue := g.queue ++ [⟨.circuit c, s.timer⟩] }))) ∧
    ((s.timer : Int) < x.lastOpen + (x.restrike : Int) * 60000 → exec (.restrikeEnd c) s = .next s) ∧
    (x.state = .closing →
      exec (.feedbackPresent c) s =
        .next ((lit true).onCircuit c fun _ => { x with state := .on, fbDeadline := none, fbFrom := s.timer })) ∧
    (x.state ≠ .closing → exec (.feedbackPresent c) s = .next (lit true)) ∧
    (∀ t, x.state = .closing → x.fbDeadline = some t →
      (t ≤ s.timer → exec (.feedbackWaitEnd c) s = .next (fault .noFeedback)) ∧
      (s.timer < t → exec (.feedbackWaitEnd c) s = .next s)) ∧
    (x.state = .on → x.fbPresent = true → x.fbFrom + 500 ≤ s.timer →
      exec (.feedbackLost c) s = .next (fault .feedbackLost)) ∧
    (x.state ≠ .on ∨ x.fbPresent = false ∨ s.timer < x.fbFrom + 500 → exec (.feedbackLost c) s = .next (lit false)) ∧
    (x.state = .off ∨ x.state = .cooling ∨ x.state = .waiting → x.fbPresent = true → x.contactor = false →
      x.lastOpen + 2000 ≤ s.timer → x.fbFrom + 2000 ≤ s.timer →
      exec (.feedbackStuck c) s =
        .next ((notifyAll (.fault (.circuit c .stuck none)) ((lit true).onCircuit c fun _ => { x with
            state := .fault, cause := .stuck })).onGate fun g =>
          { g with queue := g.queue.filter fun r => r.who ≠ .circuit c })) ∧
    (x.state = .on ∨ x.state = .closing ∨ x.state = .fault ∨ x.fbPresent = false ∨ x.contactor = true ∨
        (s.timer : Int) < x.lastOpen + 2000 ∨ s.timer < x.fbFrom + 2000 →
      exec (.feedbackStuck c) s = .next (lit true))

/-- The gate grants its head when SUPPLY LIMIT is not asserted and the stagger interval has passed since the last
grant: the head leaves and those behind it move up, the grant is counted and timed, and a waiting circuit's contactor
closes, in CLOSING with its feedback wait, or ON at once without feedback or with current reported already (log 14); a
queued swing drive goes to KICK, counted as a start, with its kick timer and sensor-loss wait and a forward pulse
until the first peak, which closes at once when the reverse contactor has been open for the dead time and else waits
for it. A queue with no head that may go grants none. SUPPLY LIMIT asserted holds the gate of a running part; released
it lets the head be tested. -/
def Obligations.GateGrantsItsHead : Prop :=
  ∀ (s : State),
    (∀ (c : CircuitNo) (t : Nat) (l : List GateReq), s.running = true → s.gate.queue = ⟨.circuit c, t⟩ :: l →
      l = [] ∨ 1 ≤ s.gate.stagger → s.circuits[c].state = .waiting → Unwatched (.circuit c) s → (∀ g,
        s.gate.lastGrant = some g → g + s.gate.stagger * 1000 ≤ s.timer) →
      let x := s.circuits[c]
      let waits : Bool := x.fbPresent && !s.pins.feedback[c]
      let granted := (s.onCircuit c fun _ => { x with
        contactor := true, state := if waits then .closing else .on,
        fbDeadline := if waits then some (s.timer + 2000) else none,
        fbFrom := if waits then x.fbFrom else s.timer }).onGate fun g =>
          { g with queue := l, lastGrant := some s.timer, grants := bump16 g.grants, limit := false }
      (s.gate.limit = false → exec .staggerEnd s = .next granted) ∧
      exec .supplyLimitReleased s = .next (granted.onPins fun p => { p with supplyLimit := false })) ∧
    (∀ (d : DriveNo) (t : Nat) (l : List GateReq), s.running = true → s.gate.queue = ⟨.drive d, t⟩ :: l →
      l = [] ∨ 1 ≤ s.gate.stagger → s.drives[d].state = .queued → NoHeads s →
      (∀ g, s.gate.lastGrant = some g → g + s.gate.stagger * 1000 ≤ s.timer) → s.gate.limit = false →
      s.drives[d].fwd.closed = false → s.drives[d].rev.closed = false →
      let x := s.drives[d]
      let kicked : Drive := { x with
        state := .kick, highestKick := none, deadline := some (s.timer + x.kickTime * 1000), kickRun := 1,
        kickLen := x.kickTime * 1000, sensorDeadline := some (s.timer + 4000) }
      let granted := fun y : Drive => (((s.onDrive d fun _ => y).onDriveCount d fun c => { c with
        starts := bump16 c.starts }).onGate fun g => { g with
          queue := l, lastGrant := some s.timer, grants := bump16 g.grants })
      (x.rev.lastOpened + x.deadTime ≤ s.timer →
        exec .staggerEnd s = .next (granted { kicked with
          fwd := { x.fwd with closed := true }, lastDir := some .forward, pulse := some ⟨.forward, none, true⟩ })) ∧
      (s.timer < x.rev.lastOpened + x.deadTime →
        exec .staggerEnd s = .next (granted { kicked with pulse := some ⟨.forward, none, false⟩ }))) ∧
    (s.gate.queue = [] ∨ s.gate.limit = true ∨
        (∃ g, s.gate.lastGrant = some g ∧ s.timer < g + s.gate.stagger * 1000) → exec .staggerEnd s = .next s) ∧
    (s.running = true →
      exec .supplyLimitAsserted s =
        .next ((s.onGate fun g => { g with limit := true }).onPins fun p => { p with supplyLimit := true })) ∧
    (s.running = false →
      exec .supplyLimitAsserted s = .next (s.onPins fun p => { p with supplyLimit := true }))

/-! ### The links (09) -/

/-- WATCH SET puts a target and mode into a slot of the requesting station, and WATCH CLEAR empties the slot; an
unknown mode is refused BAD VALUE. A frame whose KIND is no request code, or whose body does not fit it, is refused
BAD VALUE, and the identity shown is its KIND (logs 11 and 28); an INSTALL WRITE of a class that is none is so only
for a station that may install. A request that arrives while one waits is discarded as OVERRUN; one that arrives while
a reply is sent and another waits is left waiting, taken by no owner (both are counted as received, log 21); a frame
for a stopped part or a disabled link leaves nothing but the key's reading (log 10). -/
def Obligations.WatchesAndArrivals : Prop :=
  (∀ (h : Head) (i : Fin 4) (s : State), Ready h s →
      (∀ (t : TargetBody) (m : ModeBody) (a : Target) (b : WatchMode), readTarget t = some a → readMode m = some b →
        exec (.watchSet h i.val t m) s =
          .next (answered h (.done false .none) .nothing
            { s with watches := put s.watches h.station (put s.watches[h.station] i (some ⟨a, b⟩)) })) ∧
      (∀ (t : TargetBody) (a : Target) (n : Nat), readTarget t = some a →
        exec (.watchSet h i.val t (.other n)) s = .next (answered h (badValue n) .nothing s)) ∧
      exec (.watchClear h i.val) s =
        .next (answered h (.done false .none) .nothing
          { s with watches := put s.watches h.station (put s.watches[h.station] i none) })) ∧
  (∀ (h : Head) (kind : Byte) (s : State),
      (Ready h s → kind ≠ 0x60#8 →
        exec (.unknownRequest h kind) s = .next (answered h (badValue kind.toNat) .nothing s)) ∧
      (Ready h s → MayInstall h s → exec (.unknownRequest h 0x60#8) s = .next (answered h (badValue 0x60) .nothing s)) ∧
      (s.running = false ∨ s.links[h.station].enabled = false →
        exec (.unknownRequest h kind) s = .next (s.onPins fun p => { p with installKey := h.key }) ∧
        exec (.timeRead h) s = .next (s.onPins fun p => { p with installKey := h.key })) ∧
      (s.running = true → s.links[h.station].enabled = true → s.links[h.station].waiting = none →
        s.links[h.station].reply ≠ .empty →
        exec (.timeRead h) s =
          .next ((s.onPins fun p => { p with installKey := h.key }).onLink h.station fun l => { l with
            counts := { l.counts with received := bump16 l.counts.received },
            waiting := some ⟨0x02, h.tag, some .timeRead⟩ })) ∧
      (s.running = true → s.links[h.station].enabled = true → s.links[h.station].waiting ≠ none →
        s.links[h.station].notices = [] → s.links[h.station].tx ≠ none →
        exec (.timeRead h) s =
          .next ((s.onPins fun p => { p with installKey := h.key }).onLink h.station fun l => { l with
            counts := { l.counts with
              received := bump16 l.counts.received, overrun := bump16 l.counts.overrun },
            notices := [.frameError .overrun 1] })))

/-- Bytes on a link: SYNC with its stop bit starts a frame in HUNT, any other byte is ignored, a SYNC with a bad stop
bit among them (log 30); in a frame under way a byte joins, a SYNC too, and its moment is kept; a byte with a bad stop
bit, a LENGTH of 0, 1 or more than 60, a whole frame whose bytes do not sum to 0, and 20 ms without a byte, each
discard the frame, count the cause and queue FRAME ERROR on that link alone; a FRAME ERROR that waits takes the newer
cause, its count rising by one up to 255. A gap that has not come changes nothing (log 4). A disabled link, and a link
of a stopped part, ignores every byte. A whole good frame is the request that it spells: each of the eighteen KINDs
without fields, with an empty body, is passed to its owner whatever the command carries, and with a body of one byte
is refused BAD VALUE; a BELL READ, whose body the spec does not lay out, is the one that the command carries, and
carrying none it is refused BAD VALUE (logs 11 and 49). -/
def Obligations.BytesMakeFrames : Prop :=
  ∀ (n : Station) (key : Bool) (s : State),
    (s.running = true → s.links[n].enabled = true → s.links[n].notices = [] → s.links[n].tx ≠ none →
      let lost := fun (f : LinkCounts → LinkCounts) (cause : Discard) => s.onLink n fun l => { l with
        rx := .hunt, counts := f l.counts, notices := [.frameError cause 1] }
      (∀ (b : RxByte) (r : Option Request), s.links[n].rx = .hunt →
        exec (.receiveFrame n key [b] r) s =
          .next (if b.stopOk = true ∧ b.value = 0xD3#8 then s.onLink n fun l => { l with rx := .assembling [] s.timer }
            else s)) ∧
      (∀ (b : RxByte) (r : Option Request) (l : List Byte) (t : Nat), s.links[n].rx = .assembling l t →
        b.stopOk = true →
        (l = [] ∧ 2 ≤ b.value.toNat ∧ b.value.toNat ≤ 60) ∨ (∃ len ∈ l.head?, l.length < len.toNat + 1) →
        exec (.receiveFrame n key [b] r) s =
          .next (s.onLink n fun x => { x with rx := .assembling (l ++ [b.value]) s.timer })) ∧
      (∀ (b : RxByte) (r : Option Request) (l : List Byte) (t : Nat), s.links[n].rx = .assembling l t →
        b.stopOk = false →
        exec (.receiveFrame n key [b] r) s =
          .next (lost (fun c => { c with check := bump16 c.check }) .check)) ∧
      (∀ (b : RxByte) (r : Option Request) (t : Nat), s.links[n].rx = .assembling [] t → b.stopOk = true →
        b.value.toNat < 2 ∨ 60 < b.value.toNat →
        exec (.receiveFrame n key [b] r) s =
          .next (lost (fun c => { c with length := bump16 c.length }) .length)) ∧
      (∀ (len kind tag : Byte) (body : List Byte) (b : RxByte) (r : Option Request) (t : Nat),
        s.links[n].rx = .assembling (len :: kind :: tag :: body) t → b.stopOk = true → len.toNat = body.length + 2 →
        (len :: kind :: tag :: body ++ [b.value]).foldl (· + ·) 0#8 ≠ 0#8 →
        exec (.receiveFrame n key [b] r) s =
          .next (lost (fun c => { c with check := bump16 c.check }) .check)) ∧
      (∀ (l : List Byte) (t : Nat), s.links[n].rx = .assembling l t →
        (t + 20 ≤ s.timer →
          exec (.frameGapTimeout n) s = .next (lost (fun c => { c with gap := bump16 c.gap }) .gap)) ∧
        (s.timer < t + 20 → exec (.frameGapTimeout n) s = .next s))) ∧
    (∀ (front back : List Notice) (old : Discard) (k : Nat) (l : List Byte) (t : Nat), s.running = true →
      s.links[n].enabled = true → s.links[n].notices = front ++ .frameError old k :: back →
      (∀ y ∈ front ++ back, ∀ c j, y ≠ .frameError c j) → s.links[n].rx = .assembling l t → t + 20 ≤ s.timer →
      exec (.frameGapTimeout n) s = .next (s.onLink n fun x => { x with
        rx := .hunt, counts := { x.counts with gap := bump16 x.counts.gap },
        notices := front ++ .frameError .gap (min 255 (k + 1)) :: back })) ∧
    (∀ (l : List RxByte) (r : Option Request), s.running = false ∨ s.links[n].enabled = false →
      exec (.receiveFrame n key l r) s = .next s) ∧
    (∀ (tag check : Byte) (carried : Option Request), Ready ⟨n, tag, key⟩ s → s.links[n].rx = .hunt →
      let h : Head := ⟨n, tag, key⟩
      let frame := fun body : List Byte =>
        exec (.receiveFrame n key ((0xD3#8 :: body).map fun x => ⟨x, true⟩) carried) s
      (∀ p ∈ kindsWithoutFields h,
        (0x02#8 + p.1 + tag + check = 0#8 → frame [0x02#8, p.1, tag, check] = exec p.2 s) ∧
        (∀ x : Byte, 0x03#8 + p.1 + tag + x + check = 0#8 →
          frame [0x03#8, p.1, tag, x, check] = .next (answered h (badValue p.1.toNat) .nothing s))) ∧
      (∀ x : Byte, 0x03#8 + 0x1B#8 + tag + x + check = 0#8 →
        (∀ b : Nat, carried = some (.bellRead b) →
          frame [0x03#8, 0x1B#8, tag, x, check] = exec (.bellRead h b) s) ∧
        (carried = none →
          frame [0x03#8, 0x1B#8, tag, x, check] = .next (answered h (badValue 0x1B) .nothing s))))

/-- The transmitter: idle, its end changes nothing (log 19); with a frame sent, the reply that waits goes first, and
the frame that waits is then taken (so a TIME READ, whose reply waits in turn); else the oldest notice goes, counted
as sent when it begins (log 21); else it is idle. The key is sampled with the request that is taken. Every frame sent
is SYNC, LENGTH, KIND, TAG, BODY and CHECK, with LENGTH from 2 to 60 counting KIND, TAG and BODY, and the bytes after
SYNC summing to 0; a reply has its request's TAG, its kind code, and a body that begins with the flags byte, or for
REFUSED with the reason code; a notice has TAG 0 and its kind code. (Bytes that no rule fixes are free: log 49; the
place of PENDING is one byte: log 65.) -/
def Obligations.TransmitterTakesNext : Prop :=
  (∀ (n : Station) (key : Bool) (s : State),
    let keyed := s.onPins fun p => { p with installKey := key }
    (s.links[n].tx = none → exec (.transmitEnd n key) s = .next s) ∧
    (∀ f : OutFrame, s.links[n].tx = some f → (∀ r, f = .reply r → r.after = .nothing) →
      (∀ r : ReplyFrame, s.links[n].reply = .held r → s.links[n].waiting = none →
        exec (.transmitEnd n key) s =
          .next (keyed.onLink n fun l => { l with tx := some (.reply r), reply := .empty })) ∧
      (∀ (r : ReplyFrame) (tag : Byte), s.links[n].reply = .held r →
        s.links[n].waiting = some ⟨0x02#8, tag, some .timeRead⟩ →
        exec (.transmitEnd n key) s =
          .next (keyed.onLink n fun l => { l with
            tx := some (.reply r), waiting := none,
            reply := .held ⟨tag, .done false
              (.timeRead s.tb.info (weekday s.tb.loc.date) s.tb.offset
                (if s.tb.validity = .unset then 0 else s.tb.sinceSet / 60000) s.tb.lastStart s.tb.lastCheckGood),
                  .nothing⟩ })) ∧
      (∀ (x : Notice) (l : List Notice), s.links[n].reply = .empty → s.links[n].notices = x :: l →
        exec (.transmitEnd n key) s =
          .next (keyed.onLink n fun k => { k with
            tx := some (.notice x), notices := l, counts := { k.counts with sent := bump16 k.counts.sent } })) ∧
      (s.links[n].reply = .empty → s.links[n].notices = [] →
        exec (.transmitEnd n key) s = .next (keyed.onLink n fun k => { k with tx := none })))) ∧
  (∀ (n : Station) (s : State),
    s.sending n = (match s.links[n].tx with
      | some f => f.wire
      | none => [])) ∧
  (∀ f : OutFrame,
    let summed : List Byte := BitVec.ofNat 8 (f.body.length + 2) :: f.kind :: f.tag :: f.body
    f.body.length + 2 ≤ 60 ∧
      ∃ check : Byte, f.wire = 0xD3#8 :: (summed ++ [check]) ∧ (summed ++ [check]).foldl (· + ·) 0#8 = 0#8) ∧
  (∀ (tag : Byte) (a : After),
    (∀ (clamped : Bool) (p : Payload),
      let f : OutFrame := .reply ⟨tag, .done clamped p, a⟩
      f.kind = 0x80#8 ∧ f.tag = tag ∧ f.body.head? = some (if clamped then 1#8 else 0#8) ∧
        (p = .none → f.body.length = 1)) ∧
    (∀ clamped : Bool,
      let f : OutFrame := .reply ⟨tag, .queued clamped, a⟩
      f.kind = 0x81#8 ∧ f.tag = tag ∧ f.body = [if clamped then 1#8 else 0#8]) ∧
    (∀ (clamped : Bool) (place : Nat),
      let f : OutFrame := .reply ⟨tag, .pending clamped place, a⟩
      f.kind = 0x82#8 ∧ f.tag = tag ∧ f.body = [if clamped then 1#8 else 0#8, BitVec.ofNat 8 place]) ∧
    (∀ (reason : Reason) (detail : Detail),
      let f : OutFrame := .reply ⟨tag, .refused reason detail, a⟩
      f.kind = 0x83#8 ∧ f.tag = tag ∧
        f.body.head? = some (match reason with
          | .notPermitted => 0x01#8 | .notOwner => 0x02#8 | .owned => 0x03#8 | .busy => 0x04#8 | .full => 0x05#8
          | .noSuch => 0x06#8 | .badValue => 0x07#8 | .barred => 0x08#8 | .incomplete => 0x09#8
          | .interlock => 0x0B#8 | .keyRequired => 0x0C#8))) ∧
  (∀ x : Notice,
    (OutFrame.notice x).tag = 0#8 ∧
      (OutFrame.notice x).kind = (match x with
        | .timeChanged _ _ => 0xC0#8 | .changed _ _ => 0xC1#8 | .bellGranted _ _ _ => 0xC2#8
        | .bellTakenBack _ _ _ _ _ => 0xC3#8 | .complete _ _ => 0xC4#8 | .fault _ => 0xC5#8
        | .watchHit _ _ _ _ _ _ => 0xC6#8 | .frameError _ _ => 0xC7#8 | .resync _ _ => 0xC8#8) ∧
      (∀ (tag : Byte) (o : Completion), x = .complete tag o → (OutFrame.notice x).body.head? = some tag))

/-- R194, R195: a CHANGED for an item takes the place of one waiting for it; another notice joins the queue; with 16
waiting the queue is left with a RESYNC that says how many it discards, and the new notice. A disabled link gets none.
R194: CHANGED from a station reaches every link but its own, from the part every link, and changes nothing but the
links. R197: an event on a target that one slot of one station watches queues a WATCH HIT with that slot on that link,
in FIRE mode for an event of the block and in CHANGE mode for a write of any other party, and nothing else. -/
def Obligations.NoticesAreQueued : Prop :=
  (∀ (l : Link), l.tx ≠ none →
      (∀ x : Notice, l.enabled = false → l.queue x = l) ∧
      (∀ (i : Item) (w v : Writer) (front back : List Notice), l.enabled = true →
        l.notices = front ++ .changed i v :: back →
        (∀ y ∈ front ++ back, y.isChanged i = false) →
          l.queue (.changed i w) = { l with notices := front ++ .changed i w :: back }) ∧
      (∀ (x : Notice), l.enabled = true → (∀ c k, x ≠ .frameError c k) →
        (∀ i w, x = .changed i w → ∀ y ∈ l.notices, y.isChanged i = false) →
        (l.notices.length < 16 → l.queue x = { l with notices := l.notices ++ [x] }) ∧
        (16 ≤ l.notices.length →
          l.queue x = { l with
            notices := [.resync l.notices.length (bump16 l.counts.resyncs), x],
            counts := { l.counts with resyncs := bump16 l.counts.resyncs } }))) ∧
  (∀ (item : Item) (w : Writer) (s : State),
      announce item w s = { s with links := (announce item w s).links } ∧
        ∀ n : Station, (announce item w s).links[n] =
          if w = .station n then s.links[n] else s.links[n].queue (.changed item w)) ∧
  (∀ (t : Target) (e : WatchEvent) (n : Station) (i : Fin 4) (m : WatchMode) (w : Writer) (s : State),
      s.watches[n][i] = some ⟨t, m⟩ → (∀ (k : Station) (j : Fin 4) (q : WatchMode), s.watches[k][j] = some ⟨t, q⟩ →
        k = n ∧ j = i) →
      fireWatch t e s =
        (if m = .fire then s.onLink n fun l => l.queue (.watchHit i t .fire e none s.tb.loc) else s) ∧
      changeWatch t e w s =
        (if m = .change ∧
          w ≠ .station n then s.onLink n fun l => l.queue (.watchHit i t .change e (some w) s.tb.loc) else s))

/-! ### Invariants -/

/-- Every step keeps a drive's forward and reverse contactors from being closed together, absent circuits OFF, a circuit
waiting only when its restrike delay has passed, and the gate's stagger interval at least a second, with no last grant
before its first. In every step but that of a RECEIVE FRAME, and in every byte of one: a swing contactor that closes
finds the other open, and open for the drive's dead time; a flood contactor that closes has been open for its circuit's
restrike delay; and the gate's grants rise by one at a time, at a moment at which SUPPLY LIMIT is not asserted and the
stagger interval has passed since the grant before, each by the setting in force then. The step of a RECEIVE FRAME is
its bytes one after the other, so that it may complete a write of a setting and then a request that closes a contactor
or is granted. -/
def Obligations.ContactorsStayApart : Prop :=
  (∀ s t : State, step s = .next t →
    (ContactorsApart s →
      ContactorsApart t ∧ (∀ d : DriveNo, ¬(t.outputs.forward[d] = true ∧ t.outputs.reverse[d] = true)) ∧
        (BytesInFront s ∨ DriveLaw s t)) ∧
    (CircuitsWait s → CircuitsWait t ∧ (BytesInFront s ∨ FloodLaw s t)) ∧
    (GateTimed s → GateTimed t ∧ (BytesInFront s ∨ GateLaw s t))) ∧
  (∀ (n : Station) (key : Bool) (l : List RxByte) (r : Option Request) (s : State),
    exec (.receiveFrame n key l r) s = .next (l.foldl (fun u x => receiveByte n key r x u) s)) ∧
  (∀ (n : Station) (key : Bool) (x : RxByte) (r : Option Request) (s : State),
    let t := receiveByte n key r x s
    (ContactorsApart s → ContactorsApart t ∧ DriveLaw s t) ∧ (CircuitsWait s → CircuitsWait t ∧ FloodLaw s t) ∧
      (GateTimed s → GateTimed t ∧ GateLaw s t))

/-- Every step keeps the bounds on what the part holds: at most 3 coils, 32 strikes, 4 tolls, 8 tune requests (one of
them of a quarter), 16 notices a link, 768 tune steps, 14 gate requests (each requester once) and 4 claims a bell
(each claimant once); absent closures at most 2, lapses at most 15, misses at most 3; every 16-bit count within its
width, and confirmed never above commanded. -/
def Obligations.BoundsHold : Prop :=
  ∀ s t : State, Bounded s → step s = .next t → Bounded t

/-- Every step keeps every dial's P on its face, and keeps the clock in range: a real standard date of 2000 to 2099, the
seconds of day below 86400, the milliseconds below 1000, the rule's offset and the one held with the summer state at
most 120 min. Every step keeps a behalf with SWING alone, and no claim that waits asks for one. -/
def Obligations.DialsClockAndBehalfsStayInOrder : Prop :=
  (∀ s t : State, DialsOnFace s → step s = .next t → DialsOnFace t) ∧
  (∀ s t : State, ClockInRange s.tb → step s = .next t → ClockInRange t.tb) ∧
  (∀ s t : State, BehalfsInOrder s → step s = .next t → BehalfsInOrder t)

/-- A stopped part stays as its stop left it until a start: a step that leaves it stopped changes only the queue of
commands, the interval timer, the time of the time base, the power and the input levels; the DST rule,
last-minute-seen and what is kept of the last start stay. A step that stops the part leaves it as a stop does. Every
output of a stopped part is off. (What a stop leaves of a held sync closing, of the feedback inputs and of the quarter
plan is the model's choice: logs 29, 14 and 62. So are the values that volatile items hold in a stopped part, their
start values: log 25; the other fields of the IDLE hour record: log 40; and those of a kick not in progress: log 23.)
-/
def Obligations.StoppedPartStaysStopped : Prop :=
  ∀ s t : State, (s.running = false → Stopped s s) → step s = .next t → t.running = false →
    Stopped t t ∧ t.outputs = .off ∧
    (s.running = false →
      t = { s with pending := t.pending, timer := t.timer, tb := t.tb, power := t.power, pins := t.pins } ∧
      t.tb.rule = s.tb.rule ∧ t.tb.lastSeen = s.tb.lastSeen ∧ t.tb.lastStart = s.tb.lastStart ∧
      t.tb.lastCheckGood = s.tb.lastCheckGood)

/-- The state right after reset obeys every law of the device. After reset: the factory values that the spec's tables
give. -/
def Obligations.ResetIsSafeAndByTheTables : Prop :=
  (Safe State.reset) ∧
  (State.reset.tb.date = ⟨2000, 1, 1⟩ ∧ State.reset.tb.secs = 0 ∧ State.reset.tb.ms = 0 ∧
      State.reset.tb.validity = .unset ∧ State.reset.tb.summer = .winter ∧
      (∀ d : DialNo, State.reset.dials[d].present = true ∧ State.reset.dials[d].n = 720 ∧
        State.reset.dials[d].width = 400 ∧
        State.reset.dials[d].fast = 2 ∧ State.reset.dials[d].hold = 90 ∧ State.reset.dials[d].pos = 0 ∧
        State.reset.dials[d].known = false) ∧
      (∀ b : BellNo, State.reset.bells[b].present = true ∧ State.reset.bells[b].holder = .clock ∧
        State.reset.hammers[b].fitted = true ∧ State.reset.hammers[b].width = 60 ∧
        State.reset.hammers[b].recovery = 600 ∧ State.reset.hammers[b].ok = true) ∧
      State.reset.frame = ⟨5, 3⟩ ∧ State.reset.poolFree = 768 ∧ State.reset.player.waitLimit = 120 ∧
      (∀ d : DriveNo, State.reset.drives[d].bell = none ∧ State.reset.drives[d].state = .down ∧
        State.reset.drives[d].deadTime = 300 ∧ State.reset.drives[d].target = 110) ∧
      (∀ k : EntryNo, State.reset.entries[k] = none) ∧ State.reset.sched.catchUp = 15 ∧
      (∀ c : CircuitNo, State.reset.circuits[c].state = .cooling ∧ State.reset.circuits[c].restrike = 10) ∧
      State.reset.gate.stagger = 3 ∧ State.reset.rights = #v[⟨true, true, true, true, true⟩,
        ⟨false, false, true, true, false⟩, ⟨false, false, false, true, false⟩])
end

