-- ==== Sys2Proof/Laws/Frames.lean ====
section
/-! SUPPORT. The bytes of a frame sent keep R187's layout, and the check held over the store agrees with its contents
exactly where a start finds it GOOD. -/

namespace Sys2Proof.Machine

/-- R187: a field takes its width. -/
@[simp] theorem lowFirst_length (width v : Nat) : (lowFirst width v).length = width := by simp [lowFirst]

/-- R191: the head of a reply's body is a byte or two. -/
theorem Reply.lead_length (r : Reply) : 1 ≤ r.lead.length ∧ r.lead.length ≤ 2 := by
  cases r <;> simp [Reply.lead]

/-- R191: where the rules fix the result fields they are at most the six bytes of a due time. -/
theorem Payload.bytes_length {p : Payload} {l : List Byte} (h : p.bytes = some l) : l.length ≤ 6 := by
  unfold Payload.bytes at h
  split at h
  · cases h; simp
  · cases h; simp [dueBytes]
  · cases h

/-- R191: where the rules fix the rest of a reply's body it is at most six bytes. -/
theorem Reply.fields_length {r : Reply} {l : List Byte} (h : r.fields = some l) : l.length ≤ 6 := by
  unfold Reply.fields at h
  split at h
  · exact Payload.bytes_length h
  all_goals cases h <;> simp

/-- R187: an open body keeps within the longest one. -/
theorem openBody_length {lead : List Byte} (h : lead.length ≤ maxBody) (f : OutFrame) : (openBody lead f).length ≤ maxBody := by
  simp only [openBody, List.length_append, List.length_take]
  omega

/-- R187: the BODY of a frame sent has at most 58 bytes. -/
theorem OutFrame.body_length (f : OutFrame) : f.body.length ≤ maxBody := by
  match f with
  | .reply r =>
    have lead := r.reply.lead_length
    simp only [OutFrame.body, ReplyFrame.body]
    split
    · next l h =>
      have := Reply.fields_length h
      simp only [List.length_append, maxBody]; omega
    · exact openBody_length (by simp only [maxBody]; omega) _
  | .notice n =>
    cases n with
    | frameError => simp [OutFrame.body, Notice.body, maxBody]
    | complete => exact openBody_length (by simp [Notice.lead, maxBody]) _
    | _ => exact openBody_length (by simp [Notice.lead]) _

/-- R187: SYNC, LENGTH, KIND, TAG and CHECK stand around the BODY. -/
theorem wireFrame_length (kind tag : Byte) (body : List Byte) : (wireFrame kind tag body).length = body.length + 5 := by
  simp [wireFrame]

/-- R187: a frame sent occupies 5 … 63 bytes. -/
theorem OutFrame.wire_length (f : OutFrame) : 5 ≤ f.wire.length ∧ f.wire.length ≤ 63 := by
  have := f.body_length
  simp only [OutFrame.wire, wireFrame_length, maxBody] at *
  omega

/-- A sum of bytes from any start is that start and the sum from zero. -/
theorem foldl_add (l : List Byte) (x : Byte) : l.foldl (· + ·) x = x + l.foldl (· + ·) 0#8 := by
  induction l generalizing x with
  | nil => simp
  | cons y l ih => rw [List.foldl_cons, ih, List.foldl_cons, ih (0#8 + y), BitVec.zero_add, BitVec.add_assoc]

/-- R187: with its CHECK a list of bytes sums to 0. -/
theorem sum_checkByte (l : List Byte) : (l ++ [checkByte l]).foldl (· + ·) 0#8 = 0#8 := by
  simp only [List.foldl_append, List.foldl_cons, List.foldl_nil, checkByte]
  rw [BitVec.zero_sub, ← BitVec.sub_eq_add_neg, BitVec.sub_self]

/-- R187: the bytes of a frame sent after SYNC sum to 0 mod 256. -/
theorem OutFrame.wire_sum (f : OutFrame) : f.wire.tail.foldl (· + ·) 0#8 = 0#8 := sum_checkByte _

/-- R187: the LENGTH of a frame sent counts its bytes from KIND to the end of BODY. -/
theorem OutFrame.wire_len (f : OutFrame) : f.wire[1]? = some (BitVec.ofNat 8 (f.body.length + 2)) := rfl

/-- R17: the check held agrees with the one recomputed over the contents exactly where it is GOOD. -/
theorem State.heldCheck_good (s : State) : s.heldCheck = Config.storeCheck s.store ↔ s.power.storeGood = true := by
  simp only [State.heldCheck, Power.storeGood, beq_iff_eq]
  constructor
  · intro h
    have := congrArg (Config.storeCheck s.store ^^^ ·) h
    simpa [← BitVec.xor_assoc] using this
  · intro h; simp [h]

end Sys2Proof.Machine
end

