-- ==== Sys2Proof/Laws/State.lean ====
section
/-! SUPPORT. The record lemmas: tables under `put`, and each field of the state under each updater. -/

namespace Sys2Proof

/-- Reading the place written. -/
theorem put_same {n : Nat} {α : Type} (v : Vector α n) (i : Fin n) (x : α) : (put v i x)[i] = x := by
  simp [put]

/-- Reading another place. -/
theorem put_other {n : Nat} {α : Type} (v : Vector α n) (i j : Fin n) (x : α) (h : i ≠ j) : (put v i x)[j] = v[j] := by
  simp only [put, Fin.getElem_fin]
  exact Vector.getElem_set_ne i.isLt j.isLt (fun e => h (Fin.ext e))

/-- Reading any place. -/
theorem put_get {n : Nat} {α : Type} (v : Vector α n) (i j : Fin n) (x : α) : (put v i x)[j] = if i = j then x else v[j] := by
  by_cases h : i = j
  · subst h; simp [put]
  · rw [put_other v i j x h, if_neg h]

/-- Reading the place written, by its number. -/
@[simp] theorem put_same_val {n : Nat} {α : Type} (v : Vector α n) (i : Fin n) (x : α) : (put v i x)[i.val] = x :=
  put_same v i x

/-- Reading another place, by its number. -/
theorem put_other_val {n : Nat} {α : Type} (v : Vector α n) (i j : Fin n) (x : α) (h : i ≠ j) :
    (put v i x)[j.val] = v[j.val] :=
  put_other v i j x h

/-- Two tables that agree at every place are equal. -/
theorem table_ext {n : Nat} {α : Type} {v w : Vector α n} (h : ∀ i : Fin n, v[i] = w[i]) : v = w :=
  Vector.ext fun i hi => h ⟨i, hi⟩

/-- The later of two writes to one place stands. -/
@[simp] theorem put_put {n : Nat} {α : Type} (v : Vector α n) (i : Fin n) (x y : α) : put (put v i x) i y = put v i y :=
  table_ext fun j => by simp only [put_get]; split <;> rfl

/-- Writing back what a place holds changes nothing. -/
@[simp] theorem put_self {n : Nat} {α : Type} (v : Vector α n) (i : Fin n) : put v i v[i] = v :=
  table_ext fun j => by rw [put_get]; split <;> rename_i h <;> first | (subst h; rfl) | rfl

/-- Writes to two places may be made in either order. -/
theorem put_comm {n : Nat} {α : Type} (v : Vector α n) {i j : Fin n} (x y : α) (h : i ≠ j) :
    put (put v i x) j y = put (put v j y) i x :=
  table_ext fun k => by
    simp only [put_get]
    by_cases hj : j = k <;> by_cases hi : i = k <;> simp_all

namespace Machine

variable (s : State)

@[simp] theorem State.onTb_pending (f : TimeBase → TimeBase) : (s.onTb f).pending = s.pending := rfl
@[simp] theorem State.onTb_timer (f : TimeBase → TimeBase) : (s.onTb f).timer = s.timer := rfl
@[simp] theorem State.onTb_tb (f : TimeBase → TimeBase) : (s.onTb f).tb = f s.tb := rfl
@[simp] theorem State.onTb_power (f : TimeBase → TimeBase) : (s.onTb f).power = s.power := rfl
@[simp] theorem State.onTb_pins (f : TimeBase → TimeBase) : (s.onTb f).pins = s.pins := rfl
@[simp] theorem State.onTb_dials (f : TimeBase → TimeBase) : (s.onTb f).dials = s.dials := rfl
@[simp] theorem State.onTb_bells (f : TimeBase → TimeBase) : (s.onTb f).bells = s.bells := rfl
@[simp] theorem State.onTb_frame (f : TimeBase → TimeBase) : (s.onTb f).frame = s.frame := rfl
@[simp] theorem State.onTb_leases (f : TimeBase → TimeBase) : (s.onTb f).leases = s.leases := rfl
@[simp] theorem State.onTb_hammers (f : TimeBase → TimeBase) : (s.onTb f).hammers = s.hammers := rfl
@[simp] theorem State.onTb_marks (f : TimeBase → TimeBase) : (s.onTb f).marks = s.marks := rfl
@[simp] theorem State.onTb_strikes (f : TimeBase → TimeBase) : (s.onTb f).strikes = s.strikes := rfl
@[simp] theorem State.onTb_nextStrike (f : TimeBase → TimeBase) : (s.onTb f).nextStrike = s.nextStrike := rfl
@[simp] theorem State.onTb_plan (f : TimeBase → TimeBase) : (s.onTb f).plan = s.plan := rfl
@[simp] theorem State.onTb_hour (f : TimeBase → TimeBase) : (s.onTb f).hour = s.hour := rfl
@[simp] theorem State.onTb_tollQueue (f : TimeBase → TimeBase) : (s.onTb f).tollQueue = s.tollQueue := rfl
@[simp] theorem State.onTb_toll (f : TimeBase → TimeBase) : (s.onTb f).toll = s.toll := rfl
@[simp] theorem State.onTb_nextToll (f : TimeBase → TimeBase) : (s.onTb f).nextToll = s.nextToll := rfl
@[simp] theorem State.onTb_counters (f : TimeBase → TimeBase) : (s.onTb f).counters = s.counters := rfl
@[simp] theorem State.onTb_snapshot (f : TimeBase → TimeBase) : (s.onTb f).snapshot = s.snapshot := rfl
@[simp] theorem State.onTb_slots (f : TimeBase → TimeBase) : (s.onTb f).slots = s.slots := rfl
@[simp] theorem State.onTb_player (f : TimeBase → TimeBase) : (s.onTb f).player = s.player := rfl
@[simp] theorem State.onTb_drives (f : TimeBase → TimeBase) : (s.onTb f).drives = s.drives := rfl
@[simp] theorem State.onTb_entries (f : TimeBase → TimeBase) : (s.onTb f).entries = s.entries := rfl
@[simp] theorem State.onTb_windows (f : TimeBase → TimeBase) : (s.onTb f).windows = s.windows := rfl
@[simp] theorem State.onTb_sched (f : TimeBase → TimeBase) : (s.onTb f).sched = s.sched := rfl
@[simp] theorem State.onTb_circuits (f : TimeBase → TimeBase) : (s.onTb f).circuits = s.circuits := rfl
@[simp] theorem State.onTb_floodPlan (f : TimeBase → TimeBase) : (s.onTb f).floodPlan = s.floodPlan := rfl
@[simp] theorem State.onTb_duskTable (f : TimeBase → TimeBase) : (s.onTb f).duskTable = s.duskTable := rfl
@[simp] theorem State.onTb_gate (f : TimeBase → TimeBase) : (s.onTb f).gate = s.gate := rfl
@[simp] theorem State.onTb_links (f : TimeBase → TimeBase) : (s.onTb f).links = s.links := rfl
@[simp] theorem State.onTb_linkSettings (f : TimeBase → TimeBase) : (s.onTb f).linkSettings = s.linkSettings := rfl
@[simp] theorem State.onTb_rights (f : TimeBase → TimeBase) : (s.onTb f).rights = s.rights := rfl
@[simp] theorem State.onTb_watches (f : TimeBase → TimeBase) : (s.onTb f).watches = s.watches := rfl

@[simp] theorem State.onDial_pending (d : DialNo) (f : Dial → Dial) : (s.onDial d f).pending = s.pending := rfl
@[simp] theorem State.onDial_timer (d : DialNo) (f : Dial → Dial) : (s.onDial d f).timer = s.timer := rfl
@[simp] theorem State.onDial_tb (d : DialNo) (f : Dial → Dial) : (s.onDial d f).tb = s.tb := rfl
@[simp] theorem State.onDial_power (d : DialNo) (f : Dial → Dial) : (s.onDial d f).power = s.power := rfl
@[simp] theorem State.onDial_pins (d : DialNo) (f : Dial → Dial) : (s.onDial d f).pins = s.pins := rfl
@[simp] theorem State.onDial_dials (d : DialNo) (f : Dial → Dial) : (s.onDial d f).dials = put s.dials d (f s.dials[d]) := rfl
@[simp] theorem State.onDial_bells (d : DialNo) (f : Dial → Dial) : (s.onDial d f).bells = s.bells := rfl
@[simp] theorem State.onDial_frame (d : DialNo) (f : Dial → Dial) : (s.onDial d f).frame = s.frame := rfl
@[simp] theorem State.onDial_leases (d : DialNo) (f : Dial → Dial) : (s.onDial d f).leases = s.leases := rfl
@[simp] theorem State.onDial_hammers (d : DialNo) (f : Dial → Dial) : (s.onDial d f).hammers = s.hammers := rfl
@[simp] theorem State.onDial_marks (d : DialNo) (f : Dial → Dial) : (s.onDial d f).marks = s.marks := rfl
@[simp] theorem State.onDial_strikes (d : DialNo) (f : Dial → Dial) : (s.onDial d f).strikes = s.strikes := rfl
@[simp] theorem State.onDial_nextStrike (d : DialNo) (f : Dial → Dial) : (s.onDial d f).nextStrike = s.nextStrike := rfl
@[simp] theorem State.onDial_plan (d : DialNo) (f : Dial → Dial) : (s.onDial d f).plan = s.plan := rfl
@[simp] theorem State.onDial_hour (d : DialNo) (f : Dial → Dial) : (s.onDial d f).hour = s.hour := rfl
@[simp] theorem State.onDial_tollQueue (d : DialNo) (f : Dial → Dial) : (s.onDial d f).tollQueue = s.tollQueue := rfl
@[simp] theorem State.onDial_toll (d : DialNo) (f : Dial → Dial) : (s.onDial d f).toll = s.toll := rfl
@[simp] theorem State.onDial_nextToll (d : DialNo) (f : Dial → Dial) : (s.onDial d f).nextToll = s.nextToll := rfl
@[simp] theorem State.onDial_counters (d : DialNo) (f : Dial → Dial) : (s.onDial d f).counters = s.counters := rfl
@[simp] theorem State.onDial_snapshot (d : DialNo) (f : Dial → Dial) : (s.onDial d f).snapshot = s.snapshot := rfl
@[simp] theorem State.onDial_slots (d : DialNo) (f : Dial → Dial) : (s.onDial d f).slots = s.slots := rfl
@[simp] theorem State.onDial_player (d : DialNo) (f : Dial → Dial) : (s.onDial d f).player = s.player := rfl
@[simp] theorem State.onDial_drives (d : DialNo) (f : Dial → Dial) : (s.onDial d f).drives = s.drives := rfl
@[simp] theorem State.onDial_entries (d : DialNo) (f : Dial → Dial) : (s.onDial d f).entries = s.entries := rfl
@[simp] theorem State.onDial_windows (d : DialNo) (f : Dial → Dial) : (s.onDial d f).windows = s.windows := rfl
@[simp] theorem State.onDial_sched (d : DialNo) (f : Dial → Dial) : (s.onDial d f).sched = s.sched := rfl
@[simp] theorem State.onDial_circuits (d : DialNo) (f : Dial → Dial) : (s.onDial d f).circuits = s.circuits := rfl
@[simp] theorem State.onDial_floodPlan (d : DialNo) (f : Dial → Dial) : (s.onDial d f).floodPlan = s.floodPlan := rfl
@[simp] theorem State.onDial_duskTable (d : DialNo) (f : Dial → Dial) : (s.onDial d f).duskTable = s.duskTable := rfl
@[simp] theorem State.onDial_gate (d : DialNo) (f : Dial → Dial) : (s.onDial d f).gate = s.gate := rfl
@[simp] theorem State.onDial_links (d : DialNo) (f : Dial → Dial) : (s.onDial d f).links = s.links := rfl
@[simp] theorem State.onDial_linkSettings (d : DialNo) (f : Dial → Dial) : (s.onDial d f).linkSettings = s.linkSettings := rfl
@[simp] theorem State.onDial_rights (d : DialNo) (f : Dial → Dial) : (s.onDial d f).rights = s.rights := rfl
@[simp] theorem State.onDial_watches (d : DialNo) (f : Dial → Dial) : (s.onDial d f).watches = s.watches := rfl

@[simp] theorem State.onBell_pending (b : BellNo) (f : Bell → Bell) : (s.onBell b f).pending = s.pending := rfl
@[simp] theorem State.onBell_timer (b : BellNo) (f : Bell → Bell) : (s.onBell b f).timer = s.timer := rfl
@[simp] theorem State.onBell_tb (b : BellNo) (f : Bell → Bell) : (s.onBell b f).tb = s.tb := rfl
@[simp] theorem State.onBell_power (b : BellNo) (f : Bell → Bell) : (s.onBell b f).power = s.power := rfl
@[simp] theorem State.onBell_pins (b : BellNo) (f : Bell → Bell) : (s.onBell b f).pins = s.pins := rfl
@[simp] theorem State.onBell_dials (b : BellNo) (f : Bell → Bell) : (s.onBell b f).dials = s.dials := rfl
@[simp] theorem State.onBell_bells (b : BellNo) (f : Bell → Bell) : (s.onBell b f).bells = put s.bells b (f s.bells[b]) := rfl
@[simp] theorem State.onBell_frame (b : BellNo) (f : Bell → Bell) : (s.onBell b f).frame = s.frame := rfl
@[simp] theorem State.onBell_leases (b : BellNo) (f : Bell → Bell) : (s.onBell b f).leases = s.leases := rfl
@[simp] theorem State.onBell_hammers (b : BellNo) (f : Bell → Bell) : (s.onBell b f).hammers = s.hammers := rfl
@[simp] theorem State.onBell_marks (b : BellNo) (f : Bell → Bell) : (s.onBell b f).marks = s.marks := rfl
@[simp] theorem State.onBell_strikes (b : BellNo) (f : Bell → Bell) : (s.onBell b f).strikes = s.strikes := rfl
@[simp] theorem State.onBell_nextStrike (b : BellNo) (f : Bell → Bell) : (s.onBell b f).nextStrike = s.nextStrike := rfl
@[simp] theorem State.onBell_plan (b : BellNo) (f : Bell → Bell) : (s.onBell b f).plan = s.plan := rfl
@[simp] theorem State.onBell_hour (b : BellNo) (f : Bell → Bell) : (s.onBell b f).hour = s.hour := rfl
@[simp] theorem State.onBell_tollQueue (b : BellNo) (f : Bell → Bell) : (s.onBell b f).tollQueue = s.tollQueue := rfl
@[simp] theorem State.onBell_toll (b : BellNo) (f : Bell → Bell) : (s.onBell b f).toll = s.toll := rfl
@[simp] theorem State.onBell_nextToll (b : BellNo) (f : Bell → Bell) : (s.onBell b f).nextToll = s.nextToll := rfl
@[simp] theorem State.onBell_counters (b : BellNo) (f : Bell → Bell) : (s.onBell b f).counters = s.counters := rfl
@[simp] theorem State.onBell_snapshot (b : BellNo) (f : Bell → Bell) : (s.onBell b f).snapshot = s.snapshot := rfl
@[simp] theorem State.onBell_slots (b : BellNo) (f : Bell → Bell) : (s.onBell b f).slots = s.slots := rfl
@[simp] theorem State.onBell_player (b : BellNo) (f : Bell → Bell) : (s.onBell b f).player = s.player := rfl
@[simp] theorem State.onBell_drives (b : BellNo) (f : Bell → Bell) : (s.onBell b f).drives = s.drives := rfl
@[simp] theorem State.onBell_entries (b : BellNo) (f : Bell → Bell) : (s.onBell b f).entries = s.entries := rfl
@[simp] theorem State.onBell_windows (b : BellNo) (f : Bell → Bell) : (s.onBell b f).windows = s.windows := rfl
@[simp] theorem State.onBell_sched (b : BellNo) (f : Bell → Bell) : (s.onBell b f).sched = s.sched := rfl
@[simp] theorem State.onBell_circuits (b : BellNo) (f : Bell → Bell) : (s.onBell b f).circuits = s.circuits := rfl
@[simp] theorem State.onBell_floodPlan (b : BellNo) (f : Bell → Bell) : (s.onBell b f).floodPlan = s.floodPlan := rfl
@[simp] theorem State.onBell_duskTable (b : BellNo) (f : Bell → Bell) : (s.onBell b f).duskTable = s.duskTable := rfl
@[simp] theorem State.onBell_gate (b : BellNo) (f : Bell → Bell) : (s.onBell b f).gate = s.gate := rfl
@[simp] theorem State.onBell_links (b : BellNo) (f : Bell → Bell) : (s.onBell b f).links = s.links := rfl
@[simp] theorem State.onBell_linkSettings (b : BellNo) (f : Bell → Bell) : (s.onBell b f).linkSettings = s.linkSettings := rfl
@[simp] theorem State.onBell_rights (b : BellNo) (f : Bell → Bell) : (s.onBell b f).rights = s.rights := rfl
@[simp] theorem State.onBell_watches (b : BellNo) (f : Bell → Bell) : (s.onBell b f).watches = s.watches := rfl

@[simp] theorem State.onLease_pending (n : Station) (f : StationLease → StationLease) : (s.onLease n f).pending = s.pending := rfl
@[simp] theorem State.onLease_timer (n : Station) (f : StationLease → StationLease) : (s.onLease n f).timer = s.timer := rfl
@[simp] theorem State.onLease_tb (n : Station) (f : StationLease → StationLease) : (s.onLease n f).tb = s.tb := rfl
@[simp] theorem State.onLease_power (n : Station) (f : StationLease → StationLease) : (s.onLease n f).power = s.power := rfl
@[simp] theorem State.onLease_pins (n : Station) (f : StationLease → StationLease) : (s.onLease n f).pins = s.pins := rfl
@[simp] theorem State.onLease_dials (n : Station) (f : StationLease → StationLease) : (s.onLease n f).dials = s.dials := rfl
@[simp] theorem State.onLease_bells (n : Station) (f : StationLease → StationLease) : (s.onLease n f).bells = s.bells := rfl
@[simp] theorem State.onLease_frame (n : Station) (f : StationLease → StationLease) : (s.onLease n f).frame = s.frame := rfl
@[simp] theorem State.onLease_leases (n : Station) (f : StationLease → StationLease) : (s.onLease n f).leases = put s.leases n (f s.leases[n]) := rfl
@[simp] theorem State.onLease_hammers (n : Station) (f : StationLease → StationLease) : (s.onLease n f).hammers = s.hammers := rfl
@[simp] theorem State.onLease_marks (n : Station) (f : StationLease → StationLease) : (s.onLease n f).marks = s.marks := rfl
@[simp] theorem State.onLease_strikes (n : Station) (f : StationLease → StationLease) : (s.onLease n f).strikes = s.strikes := rfl
@[simp] theorem State.onLease_nextStrike (n : Station) (f : StationLease → StationLease) : (s.onLease n f).nextStrike = s.nextStrike := rfl
@[simp] theorem State.onLease_plan (n : Station) (f : StationLease → StationLease) : (s.onLease n f).plan = s.plan := rfl
@[simp] theorem State.onLease_hour (n : Station) (f : StationLease → StationLease) : (s.onLease n f).hour = s.hour := rfl
@[simp] theorem State.onLease_tollQueue (n : Station) (f : StationLease → StationLease) : (s.onLease n f).tollQueue = s.tollQueue := rfl
@[simp] theorem State.onLease_toll (n : Station) (f : StationLease → StationLease) : (s.onLease n f).toll = s.toll := rfl
@[simp] theorem State.onLease_nextToll (n : Station) (f : StationLease → StationLease) : (s.onLease n f).nextToll = s.nextToll := rfl
@[simp] theorem State.onLease_counters (n : Station) (f : StationLease → StationLease) : (s.onLease n f).counters = s.counters := rfl
@[simp] theorem State.onLease_snapshot (n : Station) (f : StationLease → StationLease) : (s.onLease n f).snapshot = s.snapshot := rfl
@[simp] theorem State.onLease_slots (n : Station) (f : StationLease → StationLease) : (s.onLease n f).slots = s.slots := rfl
@[simp] theorem State.onLease_player (n : Station) (f : StationLease → StationLease) : (s.onLease n f).player = s.player := rfl
@[simp] theorem State.onLease_drives (n : Station) (f : StationLease → StationLease) : (s.onLease n f).drives = s.drives := rfl
@[simp] theorem State.onLease_entries (n : Station) (f : StationLease → StationLease) : (s.onLease n f).entries = s.entries := rfl
@[simp] theorem State.onLease_windows (n : Station) (f : StationLease → StationLease) : (s.onLease n f).windows = s.windows := rfl
@[simp] theorem State.onLease_sched (n : Station) (f : StationLease → StationLease) : (s.onLease n f).sched = s.sched := rfl
@[simp] theorem State.onLease_circuits (n : Station) (f : StationLease → StationLease) : (s.onLease n f).circuits = s.circuits := rfl
@[simp] theorem State.onLease_floodPlan (n : Station) (f : StationLease → StationLease) : (s.onLease n f).floodPlan = s.floodPlan := rfl
@[simp] theorem State.onLease_duskTable (n : Station) (f : StationLease → StationLease) : (s.onLease n f).duskTable = s.duskTable := rfl
@[simp] theorem State.onLease_gate (n : Station) (f : StationLease → StationLease) : (s.onLease n f).gate = s.gate := rfl
@[simp] theorem State.onLease_links (n : Station) (f : StationLease → StationLease) : (s.onLease n f).links = s.links := rfl
@[simp] theorem State.onLease_linkSettings (n : Station) (f : StationLease → StationLease) : (s.onLease n f).linkSettings = s.linkSettings := rfl
@[simp] theorem State.onLease_rights (n : Station) (f : StationLease → StationLease) : (s.onLease n f).rights = s.rights := rfl
@[simp] theorem State.onLease_watches (n : Station) (f : StationLease → StationLease) : (s.onLease n f).watches = s.watches := rfl

@[simp] theorem State.onHammer_pending (b : BellNo) (f : Hammer → Hammer) : (s.onHammer b f).pending = s.pending := rfl
@[simp] theorem State.onHammer_timer (b : BellNo) (f : Hammer → Hammer) : (s.onHammer b f).timer = s.timer := rfl
@[simp] theorem State.onHammer_tb (b : BellNo) (f : Hammer → Hammer) : (s.onHammer b f).tb = s.tb := rfl
@[simp] theorem State.onHammer_power (b : BellNo) (f : Hammer → Hammer) : (s.onHammer b f).power = s.power := rfl
@[simp] theorem State.onHammer_pins (b : BellNo) (f : Hammer → Hammer) : (s.onHammer b f).pins = s.pins := rfl
@[simp] theorem State.onHammer_dials (b : BellNo) (f : Hammer → Hammer) : (s.onHammer b f).dials = s.dials := rfl
@[simp] theorem State.onHammer_bells (b : BellNo) (f : Hammer → Hammer) : (s.onHammer b f).bells = s.bells := rfl
@[simp] theorem State.onHammer_frame (b : BellNo) (f : Hammer → Hammer) : (s.onHammer b f).frame = s.frame := rfl
@[simp] theorem State.onHammer_leases (b : BellNo) (f : Hammer → Hammer) : (s.onHammer b f).leases = s.leases := rfl
@[simp] theorem State.onHammer_hammers (b : BellNo) (f : Hammer → Hammer) : (s.onHammer b f).hammers = put s.hammers b (f s.hammers[b]) := rfl
@[simp] theorem State.onHammer_marks (b : BellNo) (f : Hammer → Hammer) : (s.onHammer b f).marks = s.marks := rfl
@[simp] theorem State.onHammer_strikes (b : BellNo) (f : Hammer → Hammer) : (s.onHammer b f).strikes = s.strikes := rfl
@[simp] theorem State.onHammer_nextStrike (b : BellNo) (f : Hammer → Hammer) : (s.onHammer b f).nextStrike = s.nextStrike := rfl
@[simp] theorem State.onHammer_plan (b : BellNo) (f : Hammer → Hammer) : (s.onHammer b f).plan = s.plan := rfl
@[simp] theorem State.onHammer_hour (b : BellNo) (f : Hammer → Hammer) : (s.onHammer b f).hour = s.hour := rfl
@[simp] theorem State.onHammer_tollQueue (b : BellNo) (f : Hammer → Hammer) : (s.onHammer b f).tollQueue = s.tollQueue := rfl
@[simp] theorem State.onHammer_toll (b : BellNo) (f : Hammer → Hammer) : (s.onHammer b f).toll = s.toll := rfl
@[simp] theorem State.onHammer_nextToll (b : BellNo) (f : Hammer → Hammer) : (s.onHammer b f).nextToll = s.nextToll := rfl
@[simp] theorem State.onHammer_counters (b : BellNo) (f : Hammer → Hammer) : (s.onHammer b f).counters = s.counters := rfl
@[simp] theorem State.onHammer_snapshot (b : BellNo) (f : Hammer → Hammer) : (s.onHammer b f).snapshot = s.snapshot := rfl
@[simp] theorem State.onHammer_slots (b : BellNo) (f : Hammer → Hammer) : (s.onHammer b f).slots = s.slots := rfl
@[simp] theorem State.onHammer_player (b : BellNo) (f : Hammer → Hammer) : (s.onHammer b f).player = s.player := rfl
@[simp] theorem State.onHammer_drives (b : BellNo) (f : Hammer → Hammer) : (s.onHammer b f).drives = s.drives := rfl
@[simp] theorem State.onHammer_entries (b : BellNo) (f : Hammer → Hammer) : (s.onHammer b f).entries = s.entries := rfl
@[simp] theorem State.onHammer_windows (b : BellNo) (f : Hammer → Hammer) : (s.onHammer b f).windows = s.windows := rfl
@[simp] theorem State.onHammer_sched (b : BellNo) (f : Hammer → Hammer) : (s.onHammer b f).sched = s.sched := rfl
@[simp] theorem State.onHammer_circuits (b : BellNo) (f : Hammer → Hammer) : (s.onHammer b f).circuits = s.circuits := rfl
@[simp] theorem State.onHammer_floodPlan (b : BellNo) (f : Hammer → Hammer) : (s.onHammer b f).floodPlan = s.floodPlan := rfl
@[simp] theorem State.onHammer_duskTable (b : BellNo) (f : Hammer → Hammer) : (s.onHammer b f).duskTable = s.duskTable := rfl
@[simp] theorem State.onHammer_gate (b : BellNo) (f : Hammer → Hammer) : (s.onHammer b f).gate = s.gate := rfl
@[simp] theorem State.onHammer_links (b : BellNo) (f : Hammer → Hammer) : (s.onHammer b f).links = s.links := rfl
@[simp] theorem State.onHammer_linkSettings (b : BellNo) (f : Hammer → Hammer) : (s.onHammer b f).linkSettings = s.linkSettings := rfl
@[simp] theorem State.onHammer_rights (b : BellNo) (f : Hammer → Hammer) : (s.onHammer b f).rights = s.rights := rfl
@[simp] theorem State.onHammer_watches (b : BellNo) (f : Hammer → Hammer) : (s.onHammer b f).watches = s.watches := rfl

@[simp] theorem State.onMarks_pending (b : BellNo) (f : Marks → Marks) : (s.onMarks b f).pending = s.pending := rfl
@[simp] theorem State.onMarks_timer (b : BellNo) (f : Marks → Marks) : (s.onMarks b f).timer = s.timer := rfl
@[simp] theorem State.onMarks_tb (b : BellNo) (f : Marks → Marks) : (s.onMarks b f).tb = s.tb := rfl
@[simp] theorem State.onMarks_power (b : BellNo) (f : Marks → Marks) : (s.onMarks b f).power = s.power := rfl
@[simp] theorem State.onMarks_pins (b : BellNo) (f : Marks → Marks) : (s.onMarks b f).pins = s.pins := rfl
@[simp] theorem State.onMarks_dials (b : BellNo) (f : Marks → Marks) : (s.onMarks b f).dials = s.dials := rfl
@[simp] theorem State.onMarks_bells (b : BellNo) (f : Marks → Marks) : (s.onMarks b f).bells = s.bells := rfl
@[simp] theorem State.onMarks_frame (b : BellNo) (f : Marks → Marks) : (s.onMarks b f).frame = s.frame := rfl
@[simp] theorem State.onMarks_leases (b : BellNo) (f : Marks → Marks) : (s.onMarks b f).leases = s.leases := rfl
@[simp] theorem State.onMarks_hammers (b : BellNo) (f : Marks → Marks) : (s.onMarks b f).hammers = s.hammers := rfl
@[simp] theorem State.onMarks_marks (b : BellNo) (f : Marks → Marks) : (s.onMarks b f).marks = put s.marks b (f s.marks[b]) := rfl
@[simp] theorem State.onMarks_strikes (b : BellNo) (f : Marks → Marks) : (s.onMarks b f).strikes = s.strikes := rfl
@[simp] theorem State.onMarks_nextStrike (b : BellNo) (f : Marks → Marks) : (s.onMarks b f).nextStrike = s.nextStrike := rfl
@[simp] theorem State.onMarks_plan (b : BellNo) (f : Marks → Marks) : (s.onMarks b f).plan = s.plan := rfl
@[simp] theorem State.onMarks_hour (b : BellNo) (f : Marks → Marks) : (s.onMarks b f).hour = s.hour := rfl
@[simp] theorem State.onMarks_tollQueue (b : BellNo) (f : Marks → Marks) : (s.onMarks b f).tollQueue = s.tollQueue := rfl
@[simp] theorem State.onMarks_toll (b : BellNo) (f : Marks → Marks) : (s.onMarks b f).toll = s.toll := rfl
@[simp] theorem State.onMarks_nextToll (b : BellNo) (f : Marks → Marks) : (s.onMarks b f).nextToll = s.nextToll := rfl
@[simp] theorem State.onMarks_counters (b : BellNo) (f : Marks → Marks) : (s.onMarks b f).counters = s.counters := rfl
@[simp] theorem State.onMarks_snapshot (b : BellNo) (f : Marks → Marks) : (s.onMarks b f).snapshot = s.snapshot := rfl
@[simp] theorem State.onMarks_slots (b : BellNo) (f : Marks → Marks) : (s.onMarks b f).slots = s.slots := rfl
@[simp] theorem State.onMarks_player (b : BellNo) (f : Marks → Marks) : (s.onMarks b f).player = s.player := rfl
@[simp] theorem State.onMarks_drives (b : BellNo) (f : Marks → Marks) : (s.onMarks b f).drives = s.drives := rfl
@[simp] theorem State.onMarks_entries (b : BellNo) (f : Marks → Marks) : (s.onMarks b f).entries = s.entries := rfl
@[simp] theorem State.onMarks_windows (b : BellNo) (f : Marks → Marks) : (s.onMarks b f).windows = s.windows := rfl
@[simp] theorem State.onMarks_sched (b : BellNo) (f : Marks → Marks) : (s.onMarks b f).sched = s.sched := rfl
@[simp] theorem State.onMarks_circuits (b : BellNo) (f : Marks → Marks) : (s.onMarks b f).circuits = s.circuits := rfl
@[simp] theorem State.onMarks_floodPlan (b : BellNo) (f : Marks → Marks) : (s.onMarks b f).floodPlan = s.floodPlan := rfl
@[simp] theorem State.onMarks_duskTable (b : BellNo) (f : Marks → Marks) : (s.onMarks b f).duskTable = s.duskTable := rfl
@[simp] theorem State.onMarks_gate (b : BellNo) (f : Marks → Marks) : (s.onMarks b f).gate = s.gate := rfl
@[simp] theorem State.onMarks_links (b : BellNo) (f : Marks → Marks) : (s.onMarks b f).links = s.links := rfl
@[simp] theorem State.onMarks_linkSettings (b : BellNo) (f : Marks → Marks) : (s.onMarks b f).linkSettings = s.linkSettings := rfl
@[simp] theorem State.onMarks_rights (b : BellNo) (f : Marks → Marks) : (s.onMarks b f).rights = s.rights := rfl
@[simp] theorem State.onMarks_watches (b : BellNo) (f : Marks → Marks) : (s.onMarks b f).watches = s.watches := rfl

@[simp] theorem State.onHour_pending (f : HourRun → HourRun) : (s.onHour f).pending = s.pending := rfl
@[simp] theorem State.onHour_timer (f : HourRun → HourRun) : (s.onHour f).timer = s.timer := rfl
@[simp] theorem State.onHour_tb (f : HourRun → HourRun) : (s.onHour f).tb = s.tb := rfl
@[simp] theorem State.onHour_power (f : HourRun → HourRun) : (s.onHour f).power = s.power := rfl
@[simp] theorem State.onHour_pins (f : HourRun → HourRun) : (s.onHour f).pins = s.pins := rfl
@[simp] theorem State.onHour_dials (f : HourRun → HourRun) : (s.onHour f).dials = s.dials := rfl
@[simp] theorem State.onHour_bells (f : HourRun → HourRun) : (s.onHour f).bells = s.bells := rfl
@[simp] theorem State.onHour_frame (f : HourRun → HourRun) : (s.onHour f).frame = s.frame := rfl
@[simp] theorem State.onHour_leases (f : HourRun → HourRun) : (s.onHour f).leases = s.leases := rfl
@[simp] theorem State.onHour_hammers (f : HourRun → HourRun) : (s.onHour f).hammers = s.hammers := rfl
@[simp] theorem State.onHour_marks (f : HourRun → HourRun) : (s.onHour f).marks = s.marks := rfl
@[simp] theorem State.onHour_strikes (f : HourRun → HourRun) : (s.onHour f).strikes = s.strikes := rfl
@[simp] theorem State.onHour_nextStrike (f : HourRun → HourRun) : (s.onHour f).nextStrike = s.nextStrike := rfl
@[simp] theorem State.onHour_plan (f : HourRun → HourRun) : (s.onHour f).plan = s.plan := rfl
@[simp] theorem State.onHour_hour (f : HourRun → HourRun) : (s.onHour f).hour = f s.hour := rfl
@[simp] theorem State.onHour_tollQueue (f : HourRun → HourRun) : (s.onHour f).tollQueue = s.tollQueue := rfl
@[simp] theorem State.onHour_toll (f : HourRun → HourRun) : (s.onHour f).toll = s.toll := rfl
@[simp] theorem State.onHour_nextToll (f : HourRun → HourRun) : (s.onHour f).nextToll = s.nextToll := rfl
@[simp] theorem State.onHour_counters (f : HourRun → HourRun) : (s.onHour f).counters = s.counters := rfl
@[simp] theorem State.onHour_snapshot (f : HourRun → HourRun) : (s.onHour f).snapshot = s.snapshot := rfl
@[simp] theorem State.onHour_slots (f : HourRun → HourRun) : (s.onHour f).slots = s.slots := rfl
@[simp] theorem State.onHour_player (f : HourRun → HourRun) : (s.onHour f).player = s.player := rfl
@[simp] theorem State.onHour_drives (f : HourRun → HourRun) : (s.onHour f).drives = s.drives := rfl
@[simp] theorem State.onHour_entries (f : HourRun → HourRun) : (s.onHour f).entries = s.entries := rfl
@[simp] theorem State.onHour_windows (f : HourRun → HourRun) : (s.onHour f).windows = s.windows := rfl
@[simp] theorem State.onHour_sched (f : HourRun → HourRun) : (s.onHour f).sched = s.sched := rfl
@[simp] theorem State.onHour_circuits (f : HourRun → HourRun) : (s.onHour f).circuits = s.circuits := rfl
@[simp] theorem State.onHour_floodPlan (f : HourRun → HourRun) : (s.onHour f).floodPlan = s.floodPlan := rfl
@[simp] theorem State.onHour_duskTable (f : HourRun → HourRun) : (s.onHour f).duskTable = s.duskTable := rfl
@[simp] theorem State.onHour_gate (f : HourRun → HourRun) : (s.onHour f).gate = s.gate := rfl
@[simp] theorem State.onHour_links (f : HourRun → HourRun) : (s.onHour f).links = s.links := rfl
@[simp] theorem State.onHour_linkSettings (f : HourRun → HourRun) : (s.onHour f).linkSettings = s.linkSettings := rfl
@[simp] theorem State.onHour_rights (f : HourRun → HourRun) : (s.onHour f).rights = s.rights := rfl
@[simp] theorem State.onHour_watches (f : HourRun → HourRun) : (s.onHour f).watches = s.watches := rfl

@[simp] theorem State.onToll_pending (f : TollRun → TollRun) : (s.onToll f).pending = s.pending := rfl
@[simp] theorem State.onToll_timer (f : TollRun → TollRun) : (s.onToll f).timer = s.timer := rfl
@[simp] theorem State.onToll_tb (f : TollRun → TollRun) : (s.onToll f).tb = s.tb := rfl
@[simp] theorem State.onToll_power (f : TollRun → TollRun) : (s.onToll f).power = s.power := rfl
@[simp] theorem State.onToll_pins (f : TollRun → TollRun) : (s.onToll f).pins = s.pins := rfl
@[simp] theorem State.onToll_dials (f : TollRun → TollRun) : (s.onToll f).dials = s.dials := rfl
@[simp] theorem State.onToll_bells (f : TollRun → TollRun) : (s.onToll f).bells = s.bells := rfl
@[simp] theorem State.onToll_frame (f : TollRun → TollRun) : (s.onToll f).frame = s.frame := rfl
@[simp] theorem State.onToll_leases (f : TollRun → TollRun) : (s.onToll f).leases = s.leases := rfl
@[simp] theorem State.onToll_hammers (f : TollRun → TollRun) : (s.onToll f).hammers = s.hammers := rfl
@[simp] theorem State.onToll_marks (f : TollRun → TollRun) : (s.onToll f).marks = s.marks := rfl
@[simp] theorem State.onToll_strikes (f : TollRun → TollRun) : (s.onToll f).strikes = s.strikes := rfl
@[simp] theorem State.onToll_nextStrike (f : TollRun → TollRun) : (s.onToll f).nextStrike = s.nextStrike := rfl
@[simp] theorem State.onToll_plan (f : TollRun → TollRun) : (s.onToll f).plan = s.plan := rfl
@[simp] theorem State.onToll_hour (f : TollRun → TollRun) : (s.onToll f).hour = s.hour := rfl
@[simp] theorem State.onToll_tollQueue (f : TollRun → TollRun) : (s.onToll f).tollQueue = s.tollQueue := rfl
@[simp] theorem State.onToll_toll (f : TollRun → TollRun) : (s.onToll f).toll = s.toll.map f := rfl
@[simp] theorem State.onToll_nextToll (f : TollRun → TollRun) : (s.onToll f).nextToll = s.nextToll := rfl
@[simp] theorem State.onToll_counters (f : TollRun → TollRun) : (s.onToll f).counters = s.counters := rfl
@[simp] theorem State.onToll_snapshot (f : TollRun → TollRun) : (s.onToll f).snapshot = s.snapshot := rfl
@[simp] theorem State.onToll_slots (f : TollRun → TollRun) : (s.onToll f).slots = s.slots := rfl
@[simp] theorem State.onToll_player (f : TollRun → TollRun) : (s.onToll f).player = s.player := rfl
@[simp] theorem State.onToll_drives (f : TollRun → TollRun) : (s.onToll f).drives = s.drives := rfl
@[simp] theorem State.onToll_entries (f : TollRun → TollRun) : (s.onToll f).entries = s.entries := rfl
@[simp] theorem State.onToll_windows (f : TollRun → TollRun) : (s.onToll f).windows = s.windows := rfl
@[simp] theorem State.onToll_sched (f : TollRun → TollRun) : (s.onToll f).sched = s.sched := rfl
@[simp] theorem State.onToll_circuits (f : TollRun → TollRun) : (s.onToll f).circuits = s.circuits := rfl
@[simp] theorem State.onToll_floodPlan (f : TollRun → TollRun) : (s.onToll f).floodPlan = s.floodPlan := rfl
@[simp] theorem State.onToll_duskTable (f : TollRun → TollRun) : (s.onToll f).duskTable = s.duskTable := rfl
@[simp] theorem State.onToll_gate (f : TollRun → TollRun) : (s.onToll f).gate = s.gate := rfl
@[simp] theorem State.onToll_links (f : TollRun → TollRun) : (s.onToll f).links = s.links := rfl
@[simp] theorem State.onToll_linkSettings (f : TollRun → TollRun) : (s.onToll f).linkSettings = s.linkSettings := rfl
@[simp] theorem State.onToll_rights (f : TollRun → TollRun) : (s.onToll f).rights = s.rights := rfl
@[simp] theorem State.onToll_watches (f : TollRun → TollRun) : (s.onToll f).watches = s.watches := rfl

@[simp] theorem State.onCounters_pending (f : Counters → Counters) : (s.onCounters f).pending = s.pending := rfl
@[simp] theorem State.onCounters_timer (f : Counters → Counters) : (s.onCounters f).timer = s.timer := rfl
@[simp] theorem State.onCounters_tb (f : Counters → Counters) : (s.onCounters f).tb = s.tb := rfl
@[simp] theorem State.onCounters_power (f : Counters → Counters) : (s.onCounters f).power = s.power := rfl
@[simp] theorem State.onCounters_pins (f : Counters → Counters) : (s.onCounters f).pins = s.pins := rfl
@[simp] theorem State.onCounters_dials (f : Counters → Counters) : (s.onCounters f).dials = s.dials := rfl
@[simp] theorem State.onCounters_bells (f : Counters → Counters) : (s.onCounters f).bells = s.bells := rfl
@[simp] theorem State.onCounters_frame (f : Counters → Counters) : (s.onCounters f).frame = s.frame := rfl
@[simp] theorem State.onCounters_leases (f : Counters → Counters) : (s.onCounters f).leases = s.leases := rfl
@[simp] theorem State.onCounters_hammers (f : Counters → Counters) : (s.onCounters f).hammers = s.hammers := rfl
@[simp] theorem State.onCounters_marks (f : Counters → Counters) : (s.onCounters f).marks = s.marks := rfl
@[simp] theorem State.onCounters_strikes (f : Counters → Counters) : (s.onCounters f).strikes = s.strikes := rfl
@[simp] theorem State.onCounters_nextStrike (f : Counters → Counters) : (s.onCounters f).nextStrike = s.nextStrike := rfl
@[simp] theorem State.onCounters_plan (f : Counters → Counters) : (s.onCounters f).plan = s.plan := rfl
@[simp] theorem State.onCounters_hour (f : Counters → Counters) : (s.onCounters f).hour = s.hour := rfl
@[simp] theorem State.onCounters_tollQueue (f : Counters → Counters) : (s.onCounters f).tollQueue = s.tollQueue := rfl
@[simp] theorem State.onCounters_toll (f : Counters → Counters) : (s.onCounters f).toll = s.toll := rfl
@[simp] theorem State.onCounters_nextToll (f : Counters → Counters) : (s.onCounters f).nextToll = s.nextToll := rfl
@[simp] theorem State.onCounters_counters (f : Counters → Counters) : (s.onCounters f).counters = f s.counters := rfl
@[simp] theorem State.onCounters_snapshot (f : Counters → Counters) : (s.onCounters f).snapshot = s.snapshot := rfl
@[simp] theorem State.onCounters_slots (f : Counters → Counters) : (s.onCounters f).slots = s.slots := rfl
@[simp] theorem State.onCounters_player (f : Counters → Counters) : (s.onCounters f).player = s.player := rfl
@[simp] theorem State.onCounters_drives (f : Counters → Counters) : (s.onCounters f).drives = s.drives := rfl
@[simp] theorem State.onCounters_entries (f : Counters → Counters) : (s.onCounters f).entries = s.entries := rfl
@[simp] theorem State.onCounters_windows (f : Counters → Counters) : (s.onCounters f).windows = s.windows := rfl
@[simp] theorem State.onCounters_sched (f : Counters → Counters) : (s.onCounters f).sched = s.sched := rfl
@[simp] theorem State.onCounters_circuits (f : Counters → Counters) : (s.onCounters f).circuits = s.circuits := rfl
@[simp] theorem State.onCounters_floodPlan (f : Counters → Counters) : (s.onCounters f).floodPlan = s.floodPlan := rfl
@[simp] theorem State.onCounters_duskTable (f : Counters → Counters) : (s.onCounters f).duskTable = s.duskTable := rfl
@[simp] theorem State.onCounters_gate (f : Counters → Counters) : (s.onCounters f).gate = s.gate := rfl
@[simp] theorem State.onCounters_links (f : Counters → Counters) : (s.onCounters f).links = s.links := rfl
@[simp] theorem State.onCounters_linkSettings (f : Counters → Counters) : (s.onCounters f).linkSettings = s.linkSettings := rfl
@[simp] theorem State.onCounters_rights (f : Counters → Counters) : (s.onCounters f).rights = s.rights := rfl
@[simp] theorem State.onCounters_watches (f : Counters → Counters) : (s.onCounters f).watches = s.watches := rfl

@[simp] theorem State.onBellCount_pending (b : BellNo) (f : BellCounters → BellCounters) : (s.onBellCount b f).pending = s.pending := rfl
@[simp] theorem State.onBellCount_timer (b : BellNo) (f : BellCounters → BellCounters) : (s.onBellCount b f).timer = s.timer := rfl
@[simp] theorem State.onBellCount_tb (b : BellNo) (f : BellCounters → BellCounters) : (s.onBellCount b f).tb = s.tb := rfl
@[simp] theorem State.onBellCount_power (b : BellNo) (f : BellCounters → BellCounters) : (s.onBellCount b f).power = s.power := rfl
@[simp] theorem State.onBellCount_pins (b : BellNo) (f : BellCounters → BellCounters) : (s.onBellCount b f).pins = s.pins := rfl
@[simp] theorem State.onBellCount_dials (b : BellNo) (f : BellCounters → BellCounters) : (s.onBellCount b f).dials = s.dials := rfl
@[simp] theorem State.onBellCount_bells (b : BellNo) (f : BellCounters → BellCounters) : (s.onBellCount b f).bells = s.bells := rfl
@[simp] theorem State.onBellCount_frame (b : BellNo) (f : BellCounters → BellCounters) : (s.onBellCount b f).frame = s.frame := rfl
@[simp] theorem State.onBellCount_leases (b : BellNo) (f : BellCounters → BellCounters) : (s.onBellCount b f).leases = s.leases := rfl
@[simp] theorem State.onBellCount_hammers (b : BellNo) (f : BellCounters → BellCounters) : (s.onBellCount b f).hammers = s.hammers := rfl
@[simp] theorem State.onBellCount_marks (b : BellNo) (f : BellCounters → BellCounters) : (s.onBellCount b f).marks = s.marks := rfl
@[simp] theorem State.onBellCount_strikes (b : BellNo) (f : BellCounters → BellCounters) : (s.onBellCount b f).strikes = s.strikes := rfl
@[simp] theorem State.onBellCount_nextStrike (b : BellNo) (f : BellCounters → BellCounters) : (s.onBellCount b f).nextStrike = s.nextStrike := rfl
@[simp] theorem State.onBellCount_plan (b : BellNo) (f : BellCounters → BellCounters) : (s.onBellCount b f).plan = s.plan := rfl
@[simp] theorem State.onBellCount_hour (b : BellNo) (f : BellCounters → BellCounters) : (s.onBellCount b f).hour = s.hour := rfl
@[simp] theorem State.onBellCount_tollQueue (b : BellNo) (f : BellCounters → BellCounters) : (s.onBellCount b f).tollQueue = s.tollQueue := rfl
@[simp] theorem State.onBellCount_toll (b : BellNo) (f : BellCounters → BellCounters) : (s.onBellCount b f).toll = s.toll := rfl
@[simp] theorem State.onBellCount_nextToll (b : BellNo) (f : BellCounters → BellCounters) : (s.onBellCount b f).nextToll = s.nextToll := rfl
@[simp] theorem State.onBellCount_counters (b : BellNo) (f : BellCounters → BellCounters) : (s.onBellCount b f).counters = { s.counters with bells := put s.counters.bells b (f s.counters.bells[b]) } := rfl
@[simp] theorem State.onBellCount_snapshot (b : BellNo) (f : BellCounters → BellCounters) : (s.onBellCount b f).snapshot = s.snapshot := rfl
@[simp] theorem State.onBellCount_slots (b : BellNo) (f : BellCounters → BellCounters) : (s.onBellCount b f).slots = s.slots := rfl
@[simp] theorem State.onBellCount_player (b : BellNo) (f : BellCounters → BellCounters) : (s.onBellCount b f).player = s.player := rfl
@[simp] theorem State.onBellCount_drives (b : BellNo) (f : BellCounters → BellCounters) : (s.onBellCount b f).drives = s.drives := rfl
@[simp] theorem State.onBellCount_entries (b : BellNo) (f : BellCounters → BellCounters) : (s.onBellCount b f).entries = s.entries := rfl
@[simp] theorem State.onBellCount_windows (b : BellNo) (f : BellCounters → BellCounters) : (s.onBellCount b f).windows = s.windows := rfl
@[simp] theorem State.onBellCount_sched (b : BellNo) (f : BellCounters → BellCounters) : (s.onBellCount b f).sched = s.sched := rfl
@[simp] theorem State.onBellCount_circuits (b : BellNo) (f : BellCounters → BellCounters) : (s.onBellCount b f).circuits = s.circuits := rfl
@[simp] theorem State.onBellCount_floodPlan (b : BellNo) (f : BellCounters → BellCounters) : (s.onBellCount b f).floodPlan = s.floodPlan := rfl
@[simp] theorem State.onBellCount_duskTable (b : BellNo) (f : BellCounters → BellCounters) : (s.onBellCount b f).duskTable = s.duskTable := rfl
@[simp] theorem State.onBellCount_gate (b : BellNo) (f : BellCounters → BellCounters) : (s.onBellCount b f).gate = s.gate := rfl
@[simp] theorem State.onBellCount_links (b : BellNo) (f : BellCounters → BellCounters) : (s.onBellCount b f).links = s.links := rfl
@[simp] theorem State.onBellCount_linkSettings (b : BellNo) (f : BellCounters → BellCounters) : (s.onBellCount b f).linkSettings = s.linkSettings := rfl
@[simp] theorem State.onBellCount_rights (b : BellNo) (f : BellCounters → BellCounters) : (s.onBellCount b f).rights = s.rights := rfl
@[simp] theorem State.onBellCount_watches (b : BellNo) (f : BellCounters → BellCounters) : (s.onBellCount b f).watches = s.watches := rfl

@[simp] theorem State.onDriveCount_pending (d : DriveNo) (f : DriveCounters → DriveCounters) : (s.onDriveCount d f).pending = s.pending := rfl
@[simp] theorem State.onDriveCount_timer (d : DriveNo) (f : DriveCounters → DriveCounters) : (s.onDriveCount d f).timer = s.timer := rfl
@[simp] theorem State.onDriveCount_tb (d : DriveNo) (f : DriveCounters → DriveCounters) : (s.onDriveCount d f).tb = s.tb := rfl
@[simp] theorem State.onDriveCount_power (d : DriveNo) (f : DriveCounters → DriveCounters) : (s.onDriveCount d f).power = s.power := rfl
@[simp] theorem State.onDriveCount_pins (d : DriveNo) (f : DriveCounters → DriveCounters) : (s.onDriveCount d f).pins = s.pins := rfl
@[simp] theorem State.onDriveCount_dials (d : DriveNo) (f : DriveCounters → DriveCounters) : (s.onDriveCount d f).dials = s.dials := rfl
@[simp] theorem State.onDriveCount_bells (d : DriveNo) (f : DriveCounters → DriveCounters) : (s.onDriveCount d f).bells = s.bells := rfl
@[simp] theorem State.onDriveCount_frame (d : DriveNo) (f : DriveCounters → DriveCounters) : (s.onDriveCount d f).frame = s.frame := rfl
@[simp] theorem State.onDriveCount_leases (d : DriveNo) (f : DriveCounters → DriveCounters) : (s.onDriveCount d f).leases = s.leases := rfl
@[simp] theorem State.onDriveCount_hammers (d : DriveNo) (f : DriveCounters → DriveCounters) : (s.onDriveCount d f).hammers = s.hammers := rfl
@[simp] theorem State.onDriveCount_marks (d : DriveNo) (f : DriveCounters → DriveCounters) : (s.onDriveCount d f).marks = s.marks := rfl
@[simp] theorem State.onDriveCount_strikes (d : DriveNo) (f : DriveCounters → DriveCounters) : (s.onDriveCount d f).strikes = s.strikes := rfl
@[simp] theorem State.onDriveCount_nextStrike (d : DriveNo) (f : DriveCounters → DriveCounters) : (s.onDriveCount d f).nextStrike = s.nextStrike := rfl
@[simp] theorem State.onDriveCount_plan (d : DriveNo) (f : DriveCounters → DriveCounters) : (s.onDriveCount d f).plan = s.plan := rfl
@[simp] theorem State.onDriveCount_hour (d : DriveNo) (f : DriveCounters → DriveCounters) : (s.onDriveCount d f).hour = s.hour := rfl
@[simp] theorem State.onDriveCount_tollQueue (d : DriveNo) (f : DriveCounters → DriveCounters) : (s.onDriveCount d f).tollQueue = s.tollQueue := rfl
@[simp] theorem State.onDriveCount_toll (d : DriveNo) (f : DriveCounters → DriveCounters) : (s.onDriveCount d f).toll = s.toll := rfl
@[simp] theorem State.onDriveCount_nextToll (d : DriveNo) (f : DriveCounters → DriveCounters) : (s.onDriveCount d f).nextToll = s.nextToll := rfl
@[simp] theorem State.onDriveCount_counters (d : DriveNo) (f : DriveCounters → DriveCounters) : (s.onDriveCount d f).counters = { s.counters with drives := put s.counters.drives d (f s.counters.drives[d]) } := rfl
@[simp] theorem State.onDriveCount_snapshot (d : DriveNo) (f : DriveCounters → DriveCounters) : (s.onDriveCount d f).snapshot = s.snapshot := rfl
@[simp] theorem State.onDriveCount_slots (d : DriveNo) (f : DriveCounters → DriveCounters) : (s.onDriveCount d f).slots = s.slots := rfl
@[simp] theorem State.onDriveCount_player (d : DriveNo) (f : DriveCounters → DriveCounters) : (s.onDriveCount d f).player = s.player := rfl
@[simp] theorem State.onDriveCount_drives (d : DriveNo) (f : DriveCounters → DriveCounters) : (s.onDriveCount d f).drives = s.drives := rfl
@[simp] theorem State.onDriveCount_entries (d : DriveNo) (f : DriveCounters → DriveCounters) : (s.onDriveCount d f).entries = s.entries := rfl
@[simp] theorem State.onDriveCount_windows (d : DriveNo) (f : DriveCounters → DriveCounters) : (s.onDriveCount d f).windows = s.windows := rfl
@[simp] theorem State.onDriveCount_sched (d : DriveNo) (f : DriveCounters → DriveCounters) : (s.onDriveCount d f).sched = s.sched := rfl
@[simp] theorem State.onDriveCount_circuits (d : DriveNo) (f : DriveCounters → DriveCounters) : (s.onDriveCount d f).circuits = s.circuits := rfl
@[simp] theorem State.onDriveCount_floodPlan (d : DriveNo) (f : DriveCounters → DriveCounters) : (s.onDriveCount d f).floodPlan = s.floodPlan := rfl
@[simp] theorem State.onDriveCount_duskTable (d : DriveNo) (f : DriveCounters → DriveCounters) : (s.onDriveCount d f).duskTable = s.duskTable := rfl
@[simp] theorem State.onDriveCount_gate (d : DriveNo) (f : DriveCounters → DriveCounters) : (s.onDriveCount d f).gate = s.gate := rfl
@[simp] theorem State.onDriveCount_links (d : DriveNo) (f : DriveCounters → DriveCounters) : (s.onDriveCount d f).links = s.links := rfl
@[simp] theorem State.onDriveCount_linkSettings (d : DriveNo) (f : DriveCounters → DriveCounters) : (s.onDriveCount d f).linkSettings = s.linkSettings := rfl
@[simp] theorem State.onDriveCount_rights (d : DriveNo) (f : DriveCounters → DriveCounters) : (s.onDriveCount d f).rights = s.rights := rfl
@[simp] theorem State.onDriveCount_watches (d : DriveNo) (f : DriveCounters → DriveCounters) : (s.onDriveCount d f).watches = s.watches := rfl

@[simp] theorem State.onSlot_pending (i : SlotNo) (f : Slot → Slot) : (s.onSlot i f).pending = s.pending := rfl
@[simp] theorem State.onSlot_timer (i : SlotNo) (f : Slot → Slot) : (s.onSlot i f).timer = s.timer := rfl
@[simp] theorem State.onSlot_tb (i : SlotNo) (f : Slot → Slot) : (s.onSlot i f).tb = s.tb := rfl
@[simp] theorem State.onSlot_power (i : SlotNo) (f : Slot → Slot) : (s.onSlot i f).power = s.power := rfl
@[simp] theorem State.onSlot_pins (i : SlotNo) (f : Slot → Slot) : (s.onSlot i f).pins = s.pins := rfl
@[simp] theorem State.onSlot_dials (i : SlotNo) (f : Slot → Slot) : (s.onSlot i f).dials = s.dials := rfl
@[simp] theorem State.onSlot_bells (i : SlotNo) (f : Slot → Slot) : (s.onSlot i f).bells = s.bells := rfl
@[simp] theorem State.onSlot_frame (i : SlotNo) (f : Slot → Slot) : (s.onSlot i f).frame = s.frame := rfl
@[simp] theorem State.onSlot_leases (i : SlotNo) (f : Slot → Slot) : (s.onSlot i f).leases = s.leases := rfl
@[simp] theorem State.onSlot_hammers (i : SlotNo) (f : Slot → Slot) : (s.onSlot i f).hammers = s.hammers := rfl
@[simp] theorem State.onSlot_marks (i : SlotNo) (f : Slot → Slot) : (s.onSlot i f).marks = s.marks := rfl
@[simp] theorem State.onSlot_strikes (i : SlotNo) (f : Slot → Slot) : (s.onSlot i f).strikes = s.strikes := rfl
@[simp] theorem State.onSlot_nextStrike (i : SlotNo) (f : Slot → Slot) : (s.onSlot i f).nextStrike = s.nextStrike := rfl
@[simp] theorem State.onSlot_plan (i : SlotNo) (f : Slot → Slot) : (s.onSlot i f).plan = s.plan := rfl
@[simp] theorem State.onSlot_hour (i : SlotNo) (f : Slot → Slot) : (s.onSlot i f).hour = s.hour := rfl
@[simp] theorem State.onSlot_tollQueue (i : SlotNo) (f : Slot → Slot) : (s.onSlot i f).tollQueue = s.tollQueue := rfl
@[simp] theorem State.onSlot_toll (i : SlotNo) (f : Slot → Slot) : (s.onSlot i f).toll = s.toll := rfl
@[simp] theorem State.onSlot_nextToll (i : SlotNo) (f : Slot → Slot) : (s.onSlot i f).nextToll = s.nextToll := rfl
@[simp] theorem State.onSlot_counters (i : SlotNo) (f : Slot → Slot) : (s.onSlot i f).counters = s.counters := rfl
@[simp] theorem State.onSlot_snapshot (i : SlotNo) (f : Slot → Slot) : (s.onSlot i f).snapshot = s.snapshot := rfl
@[simp] theorem State.onSlot_slots (i : SlotNo) (f : Slot → Slot) : (s.onSlot i f).slots = put s.slots i (f s.slots[i]) := rfl
@[simp] theorem State.onSlot_player (i : SlotNo) (f : Slot → Slot) : (s.onSlot i f).player = s.player := rfl
@[simp] theorem State.onSlot_drives (i : SlotNo) (f : Slot → Slot) : (s.onSlot i f).drives = s.drives := rfl
@[simp] theorem State.onSlot_entries (i : SlotNo) (f : Slot → Slot) : (s.onSlot i f).entries = s.entries := rfl
@[simp] theorem State.onSlot_windows (i : SlotNo) (f : Slot → Slot) : (s.onSlot i f).windows = s.windows := rfl
@[simp] theorem State.onSlot_sched (i : SlotNo) (f : Slot → Slot) : (s.onSlot i f).sched = s.sched := rfl
@[simp] theorem State.onSlot_circuits (i : SlotNo) (f : Slot → Slot) : (s.onSlot i f).circuits = s.circuits := rfl
@[simp] theorem State.onSlot_floodPlan (i : SlotNo) (f : Slot → Slot) : (s.onSlot i f).floodPlan = s.floodPlan := rfl
@[simp] theorem State.onSlot_duskTable (i : SlotNo) (f : Slot → Slot) : (s.onSlot i f).duskTable = s.duskTable := rfl
@[simp] theorem State.onSlot_gate (i : SlotNo) (f : Slot → Slot) : (s.onSlot i f).gate = s.gate := rfl
@[simp] theorem State.onSlot_links (i : SlotNo) (f : Slot → Slot) : (s.onSlot i f).links = s.links := rfl
@[simp] theorem State.onSlot_linkSettings (i : SlotNo) (f : Slot → Slot) : (s.onSlot i f).linkSettings = s.linkSettings := rfl
@[simp] theorem State.onSlot_rights (i : SlotNo) (f : Slot → Slot) : (s.onSlot i f).rights = s.rights := rfl
@[simp] theorem State.onSlot_watches (i : SlotNo) (f : Slot → Slot) : (s.onSlot i f).watches = s.watches := rfl

@[simp] theorem State.onPlayer_pending (f : Player → Player) : (s.onPlayer f).pending = s.pending := rfl
@[simp] theorem State.onPlayer_timer (f : Player → Player) : (s.onPlayer f).timer = s.timer := rfl
@[simp] theorem State.onPlayer_tb (f : Player → Player) : (s.onPlayer f).tb = s.tb := rfl
@[simp] theorem State.onPlayer_power (f : Player → Player) : (s.onPlayer f).power = s.power := rfl
@[simp] theorem State.onPlayer_pins (f : Player → Player) : (s.onPlayer f).pins = s.pins := rfl
@[simp] theorem State.onPlayer_dials (f : Player → Player) : (s.onPlayer f).dials = s.dials := rfl
@[simp] theorem State.onPlayer_bells (f : Player → Player) : (s.onPlayer f).bells = s.bells := rfl
@[simp] theorem State.onPlayer_frame (f : Player → Player) : (s.onPlayer f).frame = s.frame := rfl
@[simp] theorem State.onPlayer_leases (f : Player → Player) : (s.onPlayer f).leases = s.leases := rfl
@[simp] theorem State.onPlayer_hammers (f : Player → Player) : (s.onPlayer f).hammers = s.hammers := rfl
@[simp] theorem State.onPlayer_marks (f : Player → Player) : (s.onPlayer f).marks = s.marks := rfl
@[simp] theorem State.onPlayer_strikes (f : Player → Player) : (s.onPlayer f).strikes = s.strikes := rfl
@[simp] theorem State.onPlayer_nextStrike (f : Player → Player) : (s.onPlayer f).nextStrike = s.nextStrike := rfl
@[simp] theorem State.onPlayer_plan (f : Player → Player) : (s.onPlayer f).plan = s.plan := rfl
@[simp] theorem State.onPlayer_hour (f : Player → Player) : (s.onPlayer f).hour = s.hour := rfl
@[simp] theorem State.onPlayer_tollQueue (f : Player → Player) : (s.onPlayer f).tollQueue = s.tollQueue := rfl
@[simp] theorem State.onPlayer_toll (f : Player → Player) : (s.onPlayer f).toll = s.toll := rfl
@[simp] theorem State.onPlayer_nextToll (f : Player → Player) : (s.onPlayer f).nextToll = s.nextToll := rfl
@[simp] theorem State.onPlayer_counters (f : Player → Player) : (s.onPlayer f).counters = s.counters := rfl
@[simp] theorem State.onPlayer_snapshot (f : Player → Player) : (s.onPlayer f).snapshot = s.snapshot := rfl
@[simp] theorem State.onPlayer_slots (f : Player → Player) : (s.onPlayer f).slots = s.slots := rfl
@[simp] theorem State.onPlayer_player (f : Player → Player) : (s.onPlayer f).player = f s.player := rfl
@[simp] theorem State.onPlayer_drives (f : Player → Player) : (s.onPlayer f).drives = s.drives := rfl
@[simp] theorem State.onPlayer_entries (f : Player → Player) : (s.onPlayer f).entries = s.entries := rfl
@[simp] theorem State.onPlayer_windows (f : Player → Player) : (s.onPlayer f).windows = s.windows := rfl
@[simp] theorem State.onPlayer_sched (f : Player → Player) : (s.onPlayer f).sched = s.sched := rfl
@[simp] theorem State.onPlayer_circuits (f : Player → Player) : (s.onPlayer f).circuits = s.circuits := rfl
@[simp] theorem State.onPlayer_floodPlan (f : Player → Player) : (s.onPlayer f).floodPlan = s.floodPlan := rfl
@[simp] theorem State.onPlayer_duskTable (f : Player → Player) : (s.onPlayer f).duskTable = s.duskTable := rfl
@[simp] theorem State.onPlayer_gate (f : Player → Player) : (s.onPlayer f).gate = s.gate := rfl
@[simp] theorem State.onPlayer_links (f : Player → Player) : (s.onPlayer f).links = s.links := rfl
@[simp] theorem State.onPlayer_linkSettings (f : Player → Player) : (s.onPlayer f).linkSettings = s.linkSettings := rfl
@[simp] theorem State.onPlayer_rights (f : Player → Player) : (s.onPlayer f).rights = s.rights := rfl
@[simp] theorem State.onPlayer_watches (f : Player → Player) : (s.onPlayer f).watches = s.watches := rfl

@[simp] theorem State.onDrive_pending (d : DriveNo) (f : Drive → Drive) : (s.onDrive d f).pending = s.pending := rfl
@[simp] theorem State.onDrive_timer (d : DriveNo) (f : Drive → Drive) : (s.onDrive d f).timer = s.timer := rfl
@[simp] theorem State.onDrive_tb (d : DriveNo) (f : Drive → Drive) : (s.onDrive d f).tb = s.tb := rfl
@[simp] theorem State.onDrive_power (d : DriveNo) (f : Drive → Drive) : (s.onDrive d f).power = s.power := rfl
@[simp] theorem State.onDrive_pins (d : DriveNo) (f : Drive → Drive) : (s.onDrive d f).pins = s.pins := rfl
@[simp] theorem State.onDrive_dials (d : DriveNo) (f : Drive → Drive) : (s.onDrive d f).dials = s.dials := rfl
@[simp] theorem State.onDrive_bells (d : DriveNo) (f : Drive → Drive) : (s.onDrive d f).bells = s.bells := rfl
@[simp] theorem State.onDrive_frame (d : DriveNo) (f : Drive → Drive) : (s.onDrive d f).frame = s.frame := rfl
@[simp] theorem State.onDrive_leases (d : DriveNo) (f : Drive → Drive) : (s.onDrive d f).leases = s.leases := rfl
@[simp] theorem State.onDrive_hammers (d : DriveNo) (f : Drive → Drive) : (s.onDrive d f).hammers = s.hammers := rfl
@[simp] theorem State.onDrive_marks (d : DriveNo) (f : Drive → Drive) : (s.onDrive d f).marks = s.marks := rfl
@[simp] theorem State.onDrive_strikes (d : DriveNo) (f : Drive → Drive) : (s.onDrive d f).strikes = s.strikes := rfl
@[simp] theorem State.onDrive_nextStrike (d : DriveNo) (f : Drive → Drive) : (s.onDrive d f).nextStrike = s.nextStrike := rfl
@[simp] theorem State.onDrive_plan (d : DriveNo) (f : Drive → Drive) : (s.onDrive d f).plan = s.plan := rfl
@[simp] theorem State.onDrive_hour (d : DriveNo) (f : Drive → Drive) : (s.onDrive d f).hour = s.hour := rfl
@[simp] theorem State.onDrive_tollQueue (d : DriveNo) (f : Drive → Drive) : (s.onDrive d f).tollQueue = s.tollQueue := rfl
@[simp] theorem State.onDrive_toll (d : DriveNo) (f : Drive → Drive) : (s.onDrive d f).toll = s.toll := rfl
@[simp] theorem State.onDrive_nextToll (d : DriveNo) (f : Drive → Drive) : (s.onDrive d f).nextToll = s.nextToll := rfl
@[simp] theorem State.onDrive_counters (d : DriveNo) (f : Drive → Drive) : (s.onDrive d f).counters = s.counters := rfl
@[simp] theorem State.onDrive_snapshot (d : DriveNo) (f : Drive → Drive) : (s.onDrive d f).snapshot = s.snapshot := rfl
@[simp] theorem State.onDrive_slots (d : DriveNo) (f : Drive → Drive) : (s.onDrive d f).slots = s.slots := rfl
@[simp] theorem State.onDrive_player (d : DriveNo) (f : Drive → Drive) : (s.onDrive d f).player = s.player := rfl
@[simp] theorem State.onDrive_drives (d : DriveNo) (f : Drive → Drive) : (s.onDrive d f).drives = put s.drives d (f s.drives[d]) := rfl
@[simp] theorem State.onDrive_entries (d : DriveNo) (f : Drive → Drive) : (s.onDrive d f).entries = s.entries := rfl
@[simp] theorem State.onDrive_windows (d : DriveNo) (f : Drive → Drive) : (s.onDrive d f).windows = s.windows := rfl
@[simp] theorem State.onDrive_sched (d : DriveNo) (f : Drive → Drive) : (s.onDrive d f).sched = s.sched := rfl
@[simp] theorem State.onDrive_circuits (d : DriveNo) (f : Drive → Drive) : (s.onDrive d f).circuits = s.circuits := rfl
@[simp] theorem State.onDrive_floodPlan (d : DriveNo) (f : Drive → Drive) : (s.onDrive d f).floodPlan = s.floodPlan := rfl
@[simp] theorem State.onDrive_duskTable (d : DriveNo) (f : Drive → Drive) : (s.onDrive d f).duskTable = s.duskTable := rfl
@[simp] theorem State.onDrive_gate (d : DriveNo) (f : Drive → Drive) : (s.onDrive d f).gate = s.gate := rfl
@[simp] theorem State.onDrive_links (d : DriveNo) (f : Drive → Drive) : (s.onDrive d f).links = s.links := rfl
@[simp] theorem State.onDrive_linkSettings (d : DriveNo) (f : Drive → Drive) : (s.onDrive d f).linkSettings = s.linkSettings := rfl
@[simp] theorem State.onDrive_rights (d : DriveNo) (f : Drive → Drive) : (s.onDrive d f).rights = s.rights := rfl
@[simp] theorem State.onDrive_watches (d : DriveNo) (f : Drive → Drive) : (s.onDrive d f).watches = s.watches := rfl

@[simp] theorem State.onCircuit_pending (c : CircuitNo) (f : Circuit → Circuit) : (s.onCircuit c f).pending = s.pending := rfl
@[simp] theorem State.onCircuit_timer (c : CircuitNo) (f : Circuit → Circuit) : (s.onCircuit c f).timer = s.timer := rfl
@[simp] theorem State.onCircuit_tb (c : CircuitNo) (f : Circuit → Circuit) : (s.onCircuit c f).tb = s.tb := rfl
@[simp] theorem State.onCircuit_power (c : CircuitNo) (f : Circuit → Circuit) : (s.onCircuit c f).power = s.power := rfl
@[simp] theorem State.onCircuit_pins (c : CircuitNo) (f : Circuit → Circuit) : (s.onCircuit c f).pins = s.pins := rfl
@[simp] theorem State.onCircuit_dials (c : CircuitNo) (f : Circuit → Circuit) : (s.onCircuit c f).dials = s.dials := rfl
@[simp] theorem State.onCircuit_bells (c : CircuitNo) (f : Circuit → Circuit) : (s.onCircuit c f).bells = s.bells := rfl
@[simp] theorem State.onCircuit_frame (c : CircuitNo) (f : Circuit → Circuit) : (s.onCircuit c f).frame = s.frame := rfl
@[simp] theorem State.onCircuit_leases (c : CircuitNo) (f : Circuit → Circuit) : (s.onCircuit c f).leases = s.leases := rfl
@[simp] theorem State.onCircuit_hammers (c : CircuitNo) (f : Circuit → Circuit) : (s.onCircuit c f).hammers = s.hammers := rfl
@[simp] theorem State.onCircuit_marks (c : CircuitNo) (f : Circuit → Circuit) : (s.onCircuit c f).marks = s.marks := rfl
@[simp] theorem State.onCircuit_strikes (c : CircuitNo) (f : Circuit → Circuit) : (s.onCircuit c f).strikes = s.strikes := rfl
@[simp] theorem State.onCircuit_nextStrike (c : CircuitNo) (f : Circuit → Circuit) : (s.onCircuit c f).nextStrike = s.nextStrike := rfl
@[simp] theorem State.onCircuit_plan (c : CircuitNo) (f : Circuit → Circuit) : (s.onCircuit c f).plan = s.plan := rfl
@[simp] theorem State.onCircuit_hour (c : CircuitNo) (f : Circuit → Circuit) : (s.onCircuit c f).hour = s.hour := rfl
@[simp] theorem State.onCircuit_tollQueue (c : CircuitNo) (f : Circuit → Circuit) : (s.onCircuit c f).tollQueue = s.tollQueue := rfl
@[simp] theorem State.onCircuit_toll (c : CircuitNo) (f : Circuit → Circuit) : (s.onCircuit c f).toll = s.toll := rfl
@[simp] theorem State.onCircuit_nextToll (c : CircuitNo) (f : Circuit → Circuit) : (s.onCircuit c f).nextToll = s.nextToll := rfl
@[simp] theorem State.onCircuit_counters (c : CircuitNo) (f : Circuit → Circuit) : (s.onCircuit c f).counters = s.counters := rfl
@[simp] theorem State.onCircuit_snapshot (c : CircuitNo) (f : Circuit → Circuit) : (s.onCircuit c f).snapshot = s.snapshot := rfl
@[simp] theorem State.onCircuit_slots (c : CircuitNo) (f : Circuit → Circuit) : (s.onCircuit c f).slots = s.slots := rfl
@[simp] theorem State.onCircuit_player (c : CircuitNo) (f : Circuit → Circuit) : (s.onCircuit c f).player = s.player := rfl
@[simp] theorem State.onCircuit_drives (c : CircuitNo) (f : Circuit → Circuit) : (s.onCircuit c f).drives = s.drives := rfl
@[simp] theorem State.onCircuit_entries (c : CircuitNo) (f : Circuit → Circuit) : (s.onCircuit c f).entries = s.entries := rfl
@[simp] theorem State.onCircuit_windows (c : CircuitNo) (f : Circuit → Circuit) : (s.onCircuit c f).windows = s.windows := rfl
@[simp] theorem State.onCircuit_sched (c : CircuitNo) (f : Circuit → Circuit) : (s.onCircuit c f).sched = s.sched := rfl
@[simp] theorem State.onCircuit_circuits (c : CircuitNo) (f : Circuit → Circuit) : (s.onCircuit c f).circuits = put s.circuits c (f s.circuits[c]) := rfl
@[simp] theorem State.onCircuit_floodPlan (c : CircuitNo) (f : Circuit → Circuit) : (s.onCircuit c f).floodPlan = s.floodPlan := rfl
@[simp] theorem State.onCircuit_duskTable (c : CircuitNo) (f : Circuit → Circuit) : (s.onCircuit c f).duskTable = s.duskTable := rfl
@[simp] theorem State.onCircuit_gate (c : CircuitNo) (f : Circuit → Circuit) : (s.onCircuit c f).gate = s.gate := rfl
@[simp] theorem State.onCircuit_links (c : CircuitNo) (f : Circuit → Circuit) : (s.onCircuit c f).links = s.links := rfl
@[simp] theorem State.onCircuit_linkSettings (c : CircuitNo) (f : Circuit → Circuit) : (s.onCircuit c f).linkSettings = s.linkSettings := rfl
@[simp] theorem State.onCircuit_rights (c : CircuitNo) (f : Circuit → Circuit) : (s.onCircuit c f).rights = s.rights := rfl
@[simp] theorem State.onCircuit_watches (c : CircuitNo) (f : Circuit → Circuit) : (s.onCircuit c f).watches = s.watches := rfl

@[simp] theorem State.onSched_pending (f : Sched → Sched) : (s.onSched f).pending = s.pending := rfl
@[simp] theorem State.onSched_timer (f : Sched → Sched) : (s.onSched f).timer = s.timer := rfl
@[simp] theorem State.onSched_tb (f : Sched → Sched) : (s.onSched f).tb = s.tb := rfl
@[simp] theorem State.onSched_power (f : Sched → Sched) : (s.onSched f).power = s.power := rfl
@[simp] theorem State.onSched_pins (f : Sched → Sched) : (s.onSched f).pins = s.pins := rfl
@[simp] theorem State.onSched_dials (f : Sched → Sched) : (s.onSched f).dials = s.dials := rfl
@[simp] theorem State.onSched_bells (f : Sched → Sched) : (s.onSched f).bells = s.bells := rfl
@[simp] theorem State.onSched_frame (f : Sched → Sched) : (s.onSched f).frame = s.frame := rfl
@[simp] theorem State.onSched_leases (f : Sched → Sched) : (s.onSched f).leases = s.leases := rfl
@[simp] theorem State.onSched_hammers (f : Sched → Sched) : (s.onSched f).hammers = s.hammers := rfl
@[simp] theorem State.onSched_marks (f : Sched → Sched) : (s.onSched f).marks = s.marks := rfl
@[simp] theorem State.onSched_strikes (f : Sched → Sched) : (s.onSched f).strikes = s.strikes := rfl
@[simp] theorem State.onSched_nextStrike (f : Sched → Sched) : (s.onSched f).nextStrike = s.nextStrike := rfl
@[simp] theorem State.onSched_plan (f : Sched → Sched) : (s.onSched f).plan = s.plan := rfl
@[simp] theorem State.onSched_hour (f : Sched → Sched) : (s.onSched f).hour = s.hour := rfl
@[simp] theorem State.onSched_tollQueue (f : Sched → Sched) : (s.onSched f).tollQueue = s.tollQueue := rfl
@[simp] theorem State.onSched_toll (f : Sched → Sched) : (s.onSched f).toll = s.toll := rfl
@[simp] theorem State.onSched_nextToll (f : Sched → Sched) : (s.onSched f).nextToll = s.nextToll := rfl
@[simp] theorem State.onSched_counters (f : Sched → Sched) : (s.onSched f).counters = s.counters := rfl
@[simp] theorem State.onSched_snapshot (f : Sched → Sched) : (s.onSched f).snapshot = s.snapshot := rfl
@[simp] theorem State.onSched_slots (f : Sched → Sched) : (s.onSched f).slots = s.slots := rfl
@[simp] theorem State.onSched_player (f : Sched → Sched) : (s.onSched f).player = s.player := rfl
@[simp] theorem State.onSched_drives (f : Sched → Sched) : (s.onSched f).drives = s.drives := rfl
@[simp] theorem State.onSched_entries (f : Sched → Sched) : (s.onSched f).entries = s.entries := rfl
@[simp] theorem State.onSched_windows (f : Sched → Sched) : (s.onSched f).windows = s.windows := rfl
@[simp] theorem State.onSched_sched (f : Sched → Sched) : (s.onSched f).sched = f s.sched := rfl
@[simp] theorem State.onSched_circuits (f : Sched → Sched) : (s.onSched f).circuits = s.circuits := rfl
@[simp] theorem State.onSched_floodPlan (f : Sched → Sched) : (s.onSched f).floodPlan = s.floodPlan := rfl
@[simp] theorem State.onSched_duskTable (f : Sched → Sched) : (s.onSched f).duskTable = s.duskTable := rfl
@[simp] theorem State.onSched_gate (f : Sched → Sched) : (s.onSched f).gate = s.gate := rfl
@[simp] theorem State.onSched_links (f : Sched → Sched) : (s.onSched f).links = s.links := rfl
@[simp] theorem State.onSched_linkSettings (f : Sched → Sched) : (s.onSched f).linkSettings = s.linkSettings := rfl
@[simp] theorem State.onSched_rights (f : Sched → Sched) : (s.onSched f).rights = s.rights := rfl
@[simp] theorem State.onSched_watches (f : Sched → Sched) : (s.onSched f).watches = s.watches := rfl

@[simp] theorem State.onGate_pending (f : Gate → Gate) : (s.onGate f).pending = s.pending := rfl
@[simp] theorem State.onGate_timer (f : Gate → Gate) : (s.onGate f).timer = s.timer := rfl
@[simp] theorem State.onGate_tb (f : Gate → Gate) : (s.onGate f).tb = s.tb := rfl
@[simp] theorem State.onGate_power (f : Gate → Gate) : (s.onGate f).power = s.power := rfl
@[simp] theorem State.onGate_pins (f : Gate → Gate) : (s.onGate f).pins = s.pins := rfl
@[simp] theorem State.onGate_dials (f : Gate → Gate) : (s.onGate f).dials = s.dials := rfl
@[simp] theorem State.onGate_bells (f : Gate → Gate) : (s.onGate f).bells = s.bells := rfl
@[simp] theorem State.onGate_frame (f : Gate → Gate) : (s.onGate f).frame = s.frame := rfl
@[simp] theorem State.onGate_leases (f : Gate → Gate) : (s.onGate f).leases = s.leases := rfl
@[simp] theorem State.onGate_hammers (f : Gate → Gate) : (s.onGate f).hammers = s.hammers := rfl
@[simp] theorem State.onGate_marks (f : Gate → Gate) : (s.onGate f).marks = s.marks := rfl
@[simp] theorem State.onGate_strikes (f : Gate → Gate) : (s.onGate f).strikes = s.strikes := rfl
@[simp] theorem State.onGate_nextStrike (f : Gate → Gate) : (s.onGate f).nextStrike = s.nextStrike := rfl
@[simp] theorem State.onGate_plan (f : Gate → Gate) : (s.onGate f).plan = s.plan := rfl
@[simp] theorem State.onGate_hour (f : Gate → Gate) : (s.onGate f).hour = s.hour := rfl
@[simp] theorem State.onGate_tollQueue (f : Gate → Gate) : (s.onGate f).tollQueue = s.tollQueue := rfl
@[simp] theorem State.onGate_toll (f : Gate → Gate) : (s.onGate f).toll = s.toll := rfl
@[simp] theorem State.onGate_nextToll (f : Gate → Gate) : (s.onGate f).nextToll = s.nextToll := rfl
@[simp] theorem State.onGate_counters (f : Gate → Gate) : (s.onGate f).counters = s.counters := rfl
@[simp] theorem State.onGate_snapshot (f : Gate → Gate) : (s.onGate f).snapshot = s.snapshot := rfl
@[simp] theorem State.onGate_slots (f : Gate → Gate) : (s.onGate f).slots = s.slots := rfl
@[simp] theorem State.onGate_player (f : Gate → Gate) : (s.onGate f).player = s.player := rfl
@[simp] theorem State.onGate_drives (f : Gate → Gate) : (s.onGate f).drives = s.drives := rfl
@[simp] theorem State.onGate_entries (f : Gate → Gate) : (s.onGate f).entries = s.entries := rfl
@[simp] theorem State.onGate_windows (f : Gate → Gate) : (s.onGate f).windows = s.windows := rfl
@[simp] theorem State.onGate_sched (f : Gate → Gate) : (s.onGate f).sched = s.sched := rfl
@[simp] theorem State.onGate_circuits (f : Gate → Gate) : (s.onGate f).circuits = s.circuits := rfl
@[simp] theorem State.onGate_floodPlan (f : Gate → Gate) : (s.onGate f).floodPlan = s.floodPlan := rfl
@[simp] theorem State.onGate_duskTable (f : Gate → Gate) : (s.onGate f).duskTable = s.duskTable := rfl
@[simp] theorem State.onGate_gate (f : Gate → Gate) : (s.onGate f).gate = f s.gate := rfl
@[simp] theorem State.onGate_links (f : Gate → Gate) : (s.onGate f).links = s.links := rfl
@[simp] theorem State.onGate_linkSettings (f : Gate → Gate) : (s.onGate f).linkSettings = s.linkSettings := rfl
@[simp] theorem State.onGate_rights (f : Gate → Gate) : (s.onGate f).rights = s.rights := rfl
@[simp] theorem State.onGate_watches (f : Gate → Gate) : (s.onGate f).watches = s.watches := rfl

@[simp] theorem State.onLink_pending (n : Station) (f : Link → Link) : (s.onLink n f).pending = s.pending := rfl
@[simp] theorem State.onLink_timer (n : Station) (f : Link → Link) : (s.onLink n f).timer = s.timer := rfl
@[simp] theorem State.onLink_tb (n : Station) (f : Link → Link) : (s.onLink n f).tb = s.tb := rfl
@[simp] theorem State.onLink_power (n : Station) (f : Link → Link) : (s.onLink n f).power = s.power := rfl
@[simp] theorem State.onLink_pins (n : Station) (f : Link → Link) : (s.onLink n f).pins = s.pins := rfl
@[simp] theorem State.onLink_dials (n : Station) (f : Link → Link) : (s.onLink n f).dials = s.dials := rfl
@[simp] theorem State.onLink_bells (n : Station) (f : Link → Link) : (s.onLink n f).bells = s.bells := rfl
@[simp] theorem State.onLink_frame (n : Station) (f : Link → Link) : (s.onLink n f).frame = s.frame := rfl
@[simp] theorem State.onLink_leases (n : Station) (f : Link → Link) : (s.onLink n f).leases = s.leases := rfl
@[simp] theorem State.onLink_hammers (n : Station) (f : Link → Link) : (s.onLink n f).hammers = s.hammers := rfl
@[simp] theorem State.onLink_marks (n : Station) (f : Link → Link) : (s.onLink n f).marks = s.marks := rfl
@[simp] theorem State.onLink_strikes (n : Station) (f : Link → Link) : (s.onLink n f).strikes = s.strikes := rfl
@[simp] theorem State.onLink_nextStrike (n : Station) (f : Link → Link) : (s.onLink n f).nextStrike = s.nextStrike := rfl
@[simp] theorem State.onLink_plan (n : Station) (f : Link → Link) : (s.onLink n f).plan = s.plan := rfl
@[simp] theorem State.onLink_hour (n : Station) (f : Link → Link) : (s.onLink n f).hour = s.hour := rfl
@[simp] theorem State.onLink_tollQueue (n : Station) (f : Link → Link) : (s.onLink n f).tollQueue = s.tollQueue := rfl
@[simp] theorem State.onLink_toll (n : Station) (f : Link → Link) : (s.onLink n f).toll = s.toll := rfl
@[simp] theorem State.onLink_nextToll (n : Station) (f : Link → Link) : (s.onLink n f).nextToll = s.nextToll := rfl
@[simp] theorem State.onLink_counters (n : Station) (f : Link → Link) : (s.onLink n f).counters = s.counters := rfl
@[simp] theorem State.onLink_snapshot (n : Station) (f : Link → Link) : (s.onLink n f).snapshot = s.snapshot := rfl
@[simp] theorem State.onLink_slots (n : Station) (f : Link → Link) : (s.onLink n f).slots = s.slots := rfl
@[simp] theorem State.onLink_player (n : Station) (f : Link → Link) : (s.onLink n f).player = s.player := rfl
@[simp] theorem State.onLink_drives (n : Station) (f : Link → Link) : (s.onLink n f).drives = s.drives := rfl
@[simp] theorem State.onLink_entries (n : Station) (f : Link → Link) : (s.onLink n f).entries = s.entries := rfl
@[simp] theorem State.onLink_windows (n : Station) (f : Link → Link) : (s.onLink n f).windows = s.windows := rfl
@[simp] theorem State.onLink_sched (n : Station) (f : Link → Link) : (s.onLink n f).sched = s.sched := rfl
@[simp] theorem State.onLink_circuits (n : Station) (f : Link → Link) : (s.onLink n f).circuits = s.circuits := rfl
@[simp] theorem State.onLink_floodPlan (n : Station) (f : Link → Link) : (s.onLink n f).floodPlan = s.floodPlan := rfl
@[simp] theorem State.onLink_duskTable (n : Station) (f : Link → Link) : (s.onLink n f).duskTable = s.duskTable := rfl
@[simp] theorem State.onLink_gate (n : Station) (f : Link → Link) : (s.onLink n f).gate = s.gate := rfl
@[simp] theorem State.onLink_links (n : Station) (f : Link → Link) : (s.onLink n f).links = put s.links n (f s.links[n]) := rfl
@[simp] theorem State.onLink_linkSettings (n : Station) (f : Link → Link) : (s.onLink n f).linkSettings = s.linkSettings := rfl
@[simp] theorem State.onLink_rights (n : Station) (f : Link → Link) : (s.onLink n f).rights = s.rights := rfl
@[simp] theorem State.onLink_watches (n : Station) (f : Link → Link) : (s.onLink n f).watches = s.watches := rfl

@[simp] theorem State.onPins_pending (f : Pins → Pins) : (s.onPins f).pending = s.pending := rfl
@[simp] theorem State.onPins_timer (f : Pins → Pins) : (s.onPins f).timer = s.timer := rfl
@[simp] theorem State.onPins_tb (f : Pins → Pins) : (s.onPins f).tb = s.tb := rfl
@[simp] theorem State.onPins_power (f : Pins → Pins) : (s.onPins f).power = s.power := rfl
@[simp] theorem State.onPins_pins (f : Pins → Pins) : (s.onPins f).pins = f s.pins := rfl
@[simp] theorem State.onPins_dials (f : Pins → Pins) : (s.onPins f).dials = s.dials := rfl
@[simp] theorem State.onPins_bells (f : Pins → Pins) : (s.onPins f).bells = s.bells := rfl
@[simp] theorem State.onPins_frame (f : Pins → Pins) : (s.onPins f).frame = s.frame := rfl
@[simp] theorem State.onPins_leases (f : Pins → Pins) : (s.onPins f).leases = s.leases := rfl
@[simp] theorem State.onPins_hammers (f : Pins → Pins) : (s.onPins f).hammers = s.hammers := rfl
@[simp] theorem State.onPins_marks (f : Pins → Pins) : (s.onPins f).marks = s.marks := rfl
@[simp] theorem State.onPins_strikes (f : Pins → Pins) : (s.onPins f).strikes = s.strikes := rfl
@[simp] theorem State.onPins_nextStrike (f : Pins → Pins) : (s.onPins f).nextStrike = s.nextStrike := rfl
@[simp] theorem State.onPins_plan (f : Pins → Pins) : (s.onPins f).plan = s.plan := rfl
@[simp] theorem State.onPins_hour (f : Pins → Pins) : (s.onPins f).hour = s.hour := rfl
@[simp] theorem State.onPins_tollQueue (f : Pins → Pins) : (s.onPins f).tollQueue = s.tollQueue := rfl
@[simp] theorem State.onPins_toll (f : Pins → Pins) : (s.onPins f).toll = s.toll := rfl
@[simp] theorem State.onPins_nextToll (f : Pins → Pins) : (s.onPins f).nextToll = s.nextToll := rfl
@[simp] theorem State.onPins_counters (f : Pins → Pins) : (s.onPins f).counters = s.counters := rfl
@[simp] theorem State.onPins_snapshot (f : Pins → Pins) : (s.onPins f).snapshot = s.snapshot := rfl
@[simp] theorem State.onPins_slots (f : Pins → Pins) : (s.onPins f).slots = s.slots := rfl
@[simp] theorem State.onPins_player (f : Pins → Pins) : (s.onPins f).player = s.player := rfl
@[simp] theorem State.onPins_drives (f : Pins → Pins) : (s.onPins f).drives = s.drives := rfl
@[simp] theorem State.onPins_entries (f : Pins → Pins) : (s.onPins f).entries = s.entries := rfl
@[simp] theorem State.onPins_windows (f : Pins → Pins) : (s.onPins f).windows = s.windows := rfl
@[simp] theorem State.onPins_sched (f : Pins → Pins) : (s.onPins f).sched = s.sched := rfl
@[simp] theorem State.onPins_circuits (f : Pins → Pins) : (s.onPins f).circuits = s.circuits := rfl
@[simp] theorem State.onPins_floodPlan (f : Pins → Pins) : (s.onPins f).floodPlan = s.floodPlan := rfl
@[simp] theorem State.onPins_duskTable (f : Pins → Pins) : (s.onPins f).duskTable = s.duskTable := rfl
@[simp] theorem State.onPins_gate (f : Pins → Pins) : (s.onPins f).gate = s.gate := rfl
@[simp] theorem State.onPins_links (f : Pins → Pins) : (s.onPins f).links = s.links := rfl
@[simp] theorem State.onPins_linkSettings (f : Pins → Pins) : (s.onPins f).linkSettings = s.linkSettings := rfl
@[simp] theorem State.onPins_rights (f : Pins → Pins) : (s.onPins f).rights = s.rights := rfl
@[simp] theorem State.onPins_watches (f : Pins → Pins) : (s.onPins f).watches = s.watches := rfl

@[simp] theorem State.setEntry_pending (k : EntryNo) (e : Option Entry) : (s.setEntry k e).pending = s.pending := rfl
@[simp] theorem State.setEntry_timer (k : EntryNo) (e : Option Entry) : (s.setEntry k e).timer = s.timer := rfl
@[simp] theorem State.setEntry_tb (k : EntryNo) (e : Option Entry) : (s.setEntry k e).tb = s.tb := rfl
@[simp] theorem State.setEntry_power (k : EntryNo) (e : Option Entry) : (s.setEntry k e).power = s.power := rfl
@[simp] theorem State.setEntry_pins (k : EntryNo) (e : Option Entry) : (s.setEntry k e).pins = s.pins := rfl
@[simp] theorem State.setEntry_dials (k : EntryNo) (e : Option Entry) : (s.setEntry k e).dials = s.dials := rfl
@[simp] theorem State.setEntry_bells (k : EntryNo) (e : Option Entry) : (s.setEntry k e).bells = s.bells := rfl
@[simp] theorem State.setEntry_frame (k : EntryNo) (e : Option Entry) : (s.setEntry k e).frame = s.frame := rfl
@[simp] theorem State.setEntry_leases (k : EntryNo) (e : Option Entry) : (s.setEntry k e).leases = s.leases := rfl
@[simp] theorem State.setEntry_hammers (k : EntryNo) (e : Option Entry) : (s.setEntry k e).hammers = s.hammers := rfl
@[simp] theorem State.setEntry_marks (k : EntryNo) (e : Option Entry) : (s.setEntry k e).marks = s.marks := rfl
@[simp] theorem State.setEntry_strikes (k : EntryNo) (e : Option Entry) : (s.setEntry k e).strikes = s.strikes := rfl
@[simp] theorem State.setEntry_nextStrike (k : EntryNo) (e : Option Entry) : (s.setEntry k e).nextStrike = s.nextStrike := rfl
@[simp] theorem State.setEntry_plan (k : EntryNo) (e : Option Entry) : (s.setEntry k e).plan = s.plan := rfl
@[simp] theorem State.setEntry_hour (k : EntryNo) (e : Option Entry) : (s.setEntry k e).hour = s.hour := rfl
@[simp] theorem State.setEntry_tollQueue (k : EntryNo) (e : Option Entry) : (s.setEntry k e).tollQueue = s.tollQueue := rfl
@[simp] theorem State.setEntry_toll (k : EntryNo) (e : Option Entry) : (s.setEntry k e).toll = s.toll := rfl
@[simp] theorem State.setEntry_nextToll (k : EntryNo) (e : Option Entry) : (s.setEntry k e).nextToll = s.nextToll := rfl
@[simp] theorem State.setEntry_counters (k : EntryNo) (e : Option Entry) : (s.setEntry k e).counters = s.counters := rfl
@[simp] theorem State.setEntry_snapshot (k : EntryNo) (e : Option Entry) : (s.setEntry k e).snapshot = s.snapshot := rfl
@[simp] theorem State.setEntry_slots (k : EntryNo) (e : Option Entry) : (s.setEntry k e).slots = s.slots := rfl
@[simp] theorem State.setEntry_player (k : EntryNo) (e : Option Entry) : (s.setEntry k e).player = s.player := rfl
@[simp] theorem State.setEntry_drives (k : EntryNo) (e : Option Entry) : (s.setEntry k e).drives = s.drives := rfl
@[simp] theorem State.setEntry_entries (k : EntryNo) (e : Option Entry) : (s.setEntry k e).entries = put s.entries k e := rfl
@[simp] theorem State.setEntry_windows (k : EntryNo) (e : Option Entry) : (s.setEntry k e).windows = s.windows := rfl
@[simp] theorem State.setEntry_sched (k : EntryNo) (e : Option Entry) : (s.setEntry k e).sched = s.sched := rfl
@[simp] theorem State.setEntry_circuits (k : EntryNo) (e : Option Entry) : (s.setEntry k e).circuits = s.circuits := rfl
@[simp] theorem State.setEntry_floodPlan (k : EntryNo) (e : Option Entry) : (s.setEntry k e).floodPlan = s.floodPlan := rfl
@[simp] theorem State.setEntry_duskTable (k : EntryNo) (e : Option Entry) : (s.setEntry k e).duskTable = s.duskTable := rfl
@[simp] theorem State.setEntry_gate (k : EntryNo) (e : Option Entry) : (s.setEntry k e).gate = s.gate := rfl
@[simp] theorem State.setEntry_links (k : EntryNo) (e : Option Entry) : (s.setEntry k e).links = s.links := rfl
@[simp] theorem State.setEntry_linkSettings (k : EntryNo) (e : Option Entry) : (s.setEntry k e).linkSettings = s.linkSettings := rfl
@[simp] theorem State.setEntry_rights (k : EntryNo) (e : Option Entry) : (s.setEntry k e).rights = s.rights := rfl
@[simp] theorem State.setEntry_watches (k : EntryNo) (e : Option Entry) : (s.setEntry k e).watches = s.watches := rfl

end Machine
end Sys2Proof
end

