-- ==== Sys2Proof/Laws/Requests.lean ====
section
/-! SUPPORT. What a request does on a link that takes it at once, and which operations leave a link alone. -/

namespace Sys2Proof.Machine

/-- The state in which the owner handles a request: the key sampled, the frame counted, its reply owed (R186, R190,
R193). -/
def owed (h : Head) (s : State) : State :=
  (sampleKey h.key s).onLink h.station fun l =>
    { l with counts := { l.counts with received := bump16 l.counts.received }, reply := .owed }

/-- Two pieces of work on one link are one. -/
theorem onLink_onLink (n : Station) (f g : Link → Link) (s : State) :
    (s.onLink n f).onLink n g = s.onLink n (fun l => g (f l)) := by
  simp only [State.onLink, put_same, put_put]

/-- Reading the link worked on. -/
theorem onLink_same (n : Station) (f : Link → Link) (s : State) : (s.onLink n f).links[n] = f s.links[n] :=
  put_same _ _ _

/-- Work on a link is what it does to the link there. -/
theorem onLink_congr {n : Station} {f g : Link → Link} {s : State} (h : f s.links[n] = g s.links[n]) :
    s.onLink n f = s.onLink n g := by
  simp only [State.onLink, h]

/-- R190: the reply of an idle transmitter begins at once. -/
theorem place_idle {l : Link} (tx : l.tx = none) (r : ReplyFrame) :
    l.place r = { l with tx := some (.reply r), reply := .empty } := by
  simp only [Link.place, tx]

/-- Work on another link leaves a link as it was. -/
theorem onLink_other {k n : Station} (hkn : k ≠ n) (f : Link → Link) (s : State) :
    (s.onLink k f).links[n] = s.links[n] :=
  put_other _ _ _ _ hkn

/-- Work on one link and work on another may be done in either order. -/
theorem onLink_comm {k n : Station} (hkn : k ≠ n) (f g : Link → Link) (s : State) :
    (s.onLink k f).onLink n g = (s.onLink n g).onLink k f := by
  simp only [State.onLink, put_other _ _ _ _ hkn, put_other _ _ _ _ hkn.symm]
  rw [put_comm _ _ _ hkn]

/-- A frame on a link that takes it at once is handed to its owner. -/
theorem arriveFrame_ready {h : Head} {s : State} (ready : Ready h s) (kind : Byte) (r : Option Request) :
    arriveFrame h kind r s = reply h (ask h kind r (owed h s)) := by
  obtain ⟨running, enabled, waiting, tx, idle⟩ := ready
  have hears : (sampleKey h.key s).hears h.station = true := by
    rw [State.hears, Bool.and_eq_true]
    exact ⟨running, enabled⟩
  rw [arriveFrame, if_pos hears, placeFrame]
  simp only [onLink_same]
  have hw : (sampleKey h.key s).links[h.station].waiting = none := waiting
  have hr : (sampleKey h.key s).links[h.station].reply = .empty := idle
  rw [hw, hr]
  simp only [Option.isSome_none, Bool.false_eq_true, if_false, if_true, takeFrame, onLink_onLink]
  rfl

/-- A request on a link that takes it at once is handed to its owner. -/
theorem arrive_ready {h : Head} {s : State} (ready : Ready h s) (r : Request) :
    arrive h r s = reply h (handle h r (owed h s)) := by
  rw [arrive, arriveFrame_ready ready, ask, if_pos rfl]

/-- A step that raises no report ends where its operation does. -/
@[simp] theorem settle_quiet (s : State) : settle (quiet s) = s := rfl

/-- The reply of a request whose effect `t` raises no report. -/
theorem reply_owed (h : Head) {t : State} (tx : t.links[h.station].tx = none) (f : State → Reply) (a : After) :
    reply h ⟨quiet (owed h t), f, a⟩ = answered h (f (owed h t)) a t := by
  simp only [reply, settle_quiet]
  simp only [owed, onLink_onLink, answered]
  refine onLink_congr ?_
  have tx' : (sampleKey h.key t).links[h.station].tx = none := tx
  rw [place_idle]
  exact tx'

/-- A request that changes nothing. -/
theorem reply_unchanged {h : Head} {s : State} (ready : Ready h s) (r : Reply) :
    reply h (unchanged r (owed h s)) = answered h r .nothing s :=
  reply_owed h ready.2.2.2.1 _ _

/-- Being owed a reply is work on one link and on the key. -/
theorem owed_onLink {h : Head} {k : Station} (hk : k ≠ h.station) (f : Link → Link) (s : State) :
    (owed h s).onLink k f = owed h (s.onLink k f) :=
  (onLink_comm hk f _ (sampleKey h.key s)).symm

/-- Work on each link of a list leaves the other links as they were. -/
theorem forAll_links {l : List Station} {k : Station} (hl : k ∉ l) (f : Station → State → State)
    (hf : ∀ n s, n ≠ k → (f n s).links[k] = s.links[k]) (s : State) : (forAll l f s).links[k] = s.links[k] := by
  induction l generalizing s with
  | nil => rfl
  | cons n l ih =>
    rw [List.mem_cons, not_or] at hl
    exact (ih hl.2 (f n s)).trans (hf n s (Ne.symm hl.1))

/-- What does not meet a change, done for each element of a list, does not meet it. -/
theorem forAll_comm {α : Type} {l : List α} {g : State → State} (f : α → State → State)
    (hf : ∀ a ∈ l, ∀ s, f a (g s) = g (f a s)) (s : State) : forAll l f (g s) = g (forAll l f s) := by
  induction l generalizing s with
  | nil => rfl
  | cons a l ih =>
    have := ih (fun b hb => hf b (List.mem_cons_of_mem _ hb)) (f a s)
    rwa [← hf a List.mem_cons_self] at this

/-- What does not meet the reply owed, done for each element of a list, does not meet it. -/
theorem forAll_owed {α : Type} {l : List α} {h : Head} (f : α → State → State)
    (hf : ∀ a ∈ l, ∀ s, f a (owed h s) = owed h (f a s)) (s : State) : forAll l f (owed h s) = owed h (forAll l f s) :=
  forAll_comm f hf s

/-- The stations but one do not hold that one. -/
theorem others_ne {k n : Station} (hn : n ∈ allStations.filter (· != k)) : n ≠ k := by
  simpa using (List.mem_filter.mp hn).2

/-- A notice to the other stations leaves a link as it was. -/
theorem notifyOthers_link (k : Station) (x : Notice) (s : State) : (notifyOthers k x s).links[k] = s.links[k] :=
  forAll_links (fun hk => others_ne hk rfl) _ (fun _ t hn => onLink_other hn _ t) s

/-- Notices to the other stations do not meet the reply owed. -/
theorem notifyOthers_owed (h : Head) (x : Notice) (s : State) :
    notifyOthers h.station x (owed h s) = owed h (notifyOthers h.station x s) :=
  forAll_owed _ (fun _ hn _ => owed_onLink (others_ne hn) _ _) s

/-- CHANGED to the other stations leaves the writer's link as it was. -/
theorem changedBy_link (k : Station) (item : Item) (s : State) : (changedBy k item s).links[k] = s.links[k] :=
  notifyOthers_link k _ s

/-- CHANGED to the other stations does not meet the reply owed. -/
theorem changedBy_owed (h : Head) (item : Item) (s : State) :
    changedBy h.station item (owed h s) = owed h (changedBy h.station item s) :=
  notifyOthers_owed h _ s

/-- A write that its owner announces to the other stations, answered at once. -/
theorem reply_changed {h : Head} {t : State} (tx : t.links[h.station].tx = none) (item : Item) (clamped : Bool) :
    reply h (done clamped (quiet (changedBy h.station item (owed h t)))) =
      answered h (.done clamped .none) .nothing (changedBy h.station item t) := by
  rw [changedBy_owed]
  exact reply_owed h (by rw [changedBy_link]; exact tx) _ _

/-- A request that its owner answers with nothing changed. -/
theorem arrive_unchanged {h : Head} {s : State} (ready : Ready h s) {q : Request} {p : Reply}
    (e : handle h q (owed h s) = unchanged p (owed h s)) : arrive h q s = answered h p .nothing s := by
  rw [arrive_ready ready, e, reply_unchanged ready]

/-! ### Identities -/

/-- An identity counted from 1, in range. -/
@[simp] theorem ident1_succ {k : Nat} (d : Fin k) : ident1 k (d.val + 1) = some d := by
  have := d.isLt
  unfold ident1
  rw [dif_pos ⟨by omega, by omega⟩]
  rfl

/-- An identity counted from 1, out of range. -/
theorem ident1_out {k n : Nat} (h : n = 0 ∨ k < n) : ident1 k n = none := by
  simp [ident1]
  omega

/-- An identity counted from 0, in range. -/
@[simp] theorem ident0_val {k : Nat} (d : Fin k) : ident0 k d.val = some d := by simp [ident0]

/-- An identity counted from 0, out of range. -/
theorem ident0_out {k n : Nat} (h : k ≤ n) : ident0 k n = none := by
  simp [ident0]
  omega

/-- A request whose identity is in range goes on. -/
theorem withId_some {k : Nat} (v : Nat) {i : Option (Fin k)} {x : Fin k} (s : State) (f : Fin k → Answer)
    (h : i = some x) : withId v i s f = f x := by
  subst h
  rfl

/-- A request whose identity is out of range is refused BAD VALUE. -/
theorem withId_none {k : Nat} (v : Nat) {i : Option (Fin k)} (s : State) (f : Fin k → Answer) (h : i = none) :
    withId v i s f = refusedValue v s := by
  subst h
  rfl

/-- A request that has INSTALL and the key goes on. -/
theorem withKey_may {h : Head} {s : State} (may : MayInstall h s) (a : Answer) : withKey h (owed h s) a = a := by
  have e : installDenied h (owed h s) = none := by
    rw [installDenied, if_neg, if_neg] <;> simp only [State.rightsOf, owed, State.onLink_rights, sampleKey,
      State.onPins_rights, may.1, may.2] <;> decide
  rw [withKey, e]

end Sys2Proof.Machine
end

