-- ==== Sys2Proof/Laws/Operations.lean ====
section
/-! SUPPORT. One lemma for each shared operation, saying what it can do, to be cited in place of unfolding it. -/

namespace Sys2Proof.Machine

/-! ### Numbers and operands -/

/-- 00_scope 4.3: a clamped value lies in its range. -/
theorem clamp_mem {lo hi : Nat} (h : lo ≤ hi) (v : Nat) : lo ≤ clamp lo hi v ∧ clamp lo hi v ≤ hi := by
  simp only [clamp]; omega

/-- 00_scope 4.3: a value in its range is left as it is. -/
theorem clamp_inside {lo hi v : Nat} (h : outside lo hi v = false) : clamp lo hi v = v := by
  simp only [outside, Bool.or_eq_false_iff, decide_eq_false_iff_not] at h
  simp only [clamp]; omega

/-- A count of 16 bits rises by one, or stays at its end. -/
theorem bump16_le (n : Nat) : n ≤ bump16 n ∧ bump16 n ≤ n + 1 := by
  simp only [bump16]; split <;> omega

/-! ### The Bell Frame -/

/-- R48: replacing the holder by itself raises nothing; by another it is reported. -/
theorem setHolder_cases (b : BellNo) (h : Holder) (behalf : Option Station) (cause : HolderCause) (s : State) :
    let t := s.onBell b fun x => { x with holder := h, behalf := behalf }
    (s.bells[b].holder = h ∧ setHolder b h behalf cause s = quiet t) ∨
      (s.bells[b].holder ≠ h ∧ setHolder b h behalf cause s =
        raise (fireWatch (.bell b) (.holder s.bells[b].holder h behalf cause) t) [.bellChanged b true]) := by
  by_cases e : s.bells[b].holder = h
  · exact .inl ⟨e, if_pos e⟩
  · exact .inr ⟨e, if_neg e⟩

/-- R60, R61: a claim that does not wait leaves nothing behind; one that waits leaves the list. -/
theorem removeClaim_cases (b : BellNo) (who : Claimant) (s : State) :
    ((∀ c ∈ s.bells[b].waiting, c.claimant ≠ who) ∧ removeClaim b who s = quiet s) ∨
      ((∃ c ∈ s.bells[b].waiting, c.claimant = who) ∧ removeClaim b who s =
        raise (s.onBell b fun x => { x with waiting := x.waiting.filter fun c => c.claimant != who })
          [.bellChanged b false]) := by
  by_cases e : s.bells[b].waiting.any (fun c => c.claimant == who) = true
  · refine .inr ⟨?_, if_pos e⟩
    simpa using e
  · refine .inl ⟨?_, if_neg e⟩
    simpa using e

/-- R58: a release of a bell with no claim waiting changes nothing. -/
theorem sequenceReleased_none (b : BellNo) (s : State) (h : s.bells[b].waiting = []) : sequenceReleased b s = quiet s := by
  simp only [sequenceReleased, grantHead, h]
  split
  · rfl
  · split <;> rfl

/-! ### The Hammer Engine -/

/-- R75: the list grows by the strike posted. -/
theorem insertStrike_length (x : Strike) (l : List Strike) : (insertStrike x l).length = l.length + 1 := by
  induction l with
  | nil => rfl
  | cons y l ih =>
    simp only [insertStrike]
    split
    · simp only [List.length_cons, ih]
    · rfl

/-- R75: a strike taken from the list leaves it no longer than it was. -/
theorem dropStrike_length (id : Nat) (s : State) : (dropStrike id s).strikes.length ≤ s.strikes.length :=
  List.length_filter_le _ _

/-- R75: an owner's strikes taken from the list leave it no longer than it was. -/
theorem removeStrikes_length (mine : StrikeSource → Bool) (s : State) :
    (removeStrikes mine s).strikes.length ≤ s.strikes.length :=
  List.length_filter_le _ _

/-- R76, R78: with no strike in the list nothing fires. -/
theorem runStrikes_nil {s : State} (h : s.strikes = []) : runStrikes s = quiet s := by
  simp [runStrikes, h, dueTests, arbiter, Run.andThen, quiet]

/-- R81: clearing a mark clears it, and raises a release when it was the last of its bell. -/
theorem clearMark_cases (q : Sequence) (b : BellNo) (s : State) :
    let t := s.onMarks b fun m => m.with q false
    clearMark q b s = quiet t ∨ (s.inSequence b = true ∧ t.inSequence b = false ∧
      clearMark q b s = raise t [.sequenceRelease b]) := by
  simp only [clearMark]
  split
  · next h =>
    rw [Bool.and_eq_true, Bool.not_eq_true'] at h
    exact .inr ⟨h.1, h.2, rfl⟩
  · exact .inl rfl

/-- R86: a post of the hour run is taken, or is repeated later. -/
theorem postHour_cases (b : BellNo) (due : Int) (s : State) :
    (s.strikes.length < Config.strikeMax ∧
        postHour b due s = post b due .hour (s.onHour fun h => { h with posted := true, retry := none })) ∨
      (Config.strikeMax ≤ s.strikes.length ∧
        postHour b due s = quiet (s.onHour fun h => { h with posted := false, retry := some ⟨due, s.timer + 100⟩ })) := by
  by_cases e : s.canPost = true
  · exact .inl ⟨by simpa [State.canPost] using e, if_pos e⟩
  · exact .inr ⟨by simpa [State.canPost] using e, if_neg e⟩

/-- R91: a post of the toll is taken, or is repeated later. -/
theorem postToll_cases (r : TollRun) (due : Int) (s : State) :
    (s.strikes.length < Config.strikeMax ∧
        postToll r due s = post r.toll.bell due r.strike (s.onToll fun r => { r with retry := none })) ∨
      (Config.strikeMax ≤ s.strikes.length ∧
        postToll r due s = quiet (s.onToll fun r => { r with retry := some ⟨due, s.timer + 100⟩ })) := by
  by_cases e : s.canPost = true
  · exact .inl ⟨by simpa [State.canPost] using e, if_pos e⟩
  · exact .inr ⟨by simpa [State.canPost] using e, if_neg e⟩

/-! ### The Tune Player -/

/-- R109: a request joins the end of the queue, and one that becomes the head is tested. -/
theorem enqueueTune_cases (slot : SlotNo) (src : TuneSource) (repeats : Nat) (follow : Bool) (s : State) :
    let t := s.onPlayer fun p =>
      { p with queue := p.queue ++ [⟨s.player.nextId, slot, src, repeats, s.timer, follow⟩], nextId := p.nextId + 1 }
    (s.player.queue = [] ∧ enqueueTune slot src repeats follow s = raise t [.tuneHead]) ∨
      (s.player.queue ≠ [] ∧ enqueueTune slot src repeats follow s = quiet t) := by
  by_cases e : s.player.queue.isEmpty = true
  · exact .inl ⟨by simpa using e, if_pos e⟩
  · exact .inr ⟨by simpa using e, if_neg e⟩

/-- R101: an EMPTY slot reserves no step of the pool. -/
@[simp] theorem emptySlot_reserved : emptySlot.reserved = 0 := rfl

/-! ### The Swing Controller -/

/-- R132: opening both contactors leaves both open. -/
@[simp] theorem openAll_open (timer : Nat) (d : Drive) :
    (d.openAll timer).fwd.closed = false ∧ (d.openAll timer).rev.closed = false := by
  simp only [Drive.openAll, Contactor.opened]
  constructor <;> split <;> simp_all

/-- R132: opening one side leaves the other as it was. -/
theorem openSide_other (timer : Nat) (dir : Direction) (d : Drive) :
    (d.openSide timer dir).contactor (opposite dir) = d.contactor (opposite dir) := by
  cases dir <;> rfl

/-- R132: an opened side is open. -/
@[simp] theorem openSide_open (timer : Nat) (dir : Direction) (d : Drive) :
    ((d.openSide timer dir).contactor dir).closed = false := by
  cases dir
  · cases h : d.fwd.closed <;> simp [Drive.openSide, Drive.contactor, Drive.setContactor, Contactor.opened, h]
  · cases h : d.rev.closed <;> simp [Drive.openSide, Drive.contactor, Drive.setContactor, Contactor.opened, h]

/-- R131, R132: a pulse closes its own contactor and leaves the other as it was. -/
theorem closePulse_contactors (dir : Direction) (e : Option Nat) (d : Drive) :
    ((d.closePulse dir e).contactor dir).closed = true ∧
      (d.closePulse dir e).contactor (opposite dir) = d.contactor (opposite dir) := by
  cases dir <;> exact ⟨rfl, rfl⟩

/-- R132: a contactor may close only with the other open, and open for the dead time. -/
theorem mayClose_spec {d : Drive} {timer : Nat} {dir : Direction} (h : d.mayClose timer dir = true) :
    (d.contactor (opposite dir)).closed = false ∧ (d.contactor (opposite dir)).lastOpened + d.deadTime ≤ timer := by
  simpa [Drive.mayClose] using h

/-! ### The gate -/

/-- R179: a requester in the queue stays where it is; another joins the end, and the head is tested. -/
theorem gateJoin_cases (w : Requester) (s : State) :
    ((∃ r ∈ s.gate.queue, r.who = w) ∧ gateJoin w s = quiet s) ∨
      ((∀ r ∈ s.gate.queue, r.who ≠ w) ∧ gateJoin w s =
        raise (s.onGate fun g => { g with queue := g.queue ++ [⟨w, s.timer⟩] }) [.gateTest]) := by
  by_cases e : s.gate.has w = true
  · exact .inl ⟨by simpa [Gate.has] using e, if_pos e⟩
  · exact .inr ⟨by simpa [Gate.has] using e, if_neg e⟩

/-- R179: a withdrawal takes the request out, and the head is tested. -/
theorem gateLeave_cases (w : Requester) (s : State) :
    ((∀ r ∈ s.gate.queue, r.who ≠ w) ∧ gateLeave w s = quiet s) ∨
      ((∃ r ∈ s.gate.queue, r.who = w) ∧ gateLeave w s =
        raise (s.onGate fun g => { g with queue := g.queue.filter fun r => r.who != w }) [.gateTest]) := by
  by_cases e : s.gate.has w = true
  · exact .inr ⟨by simpa [Gate.has] using e, if_pos e⟩
  · exact .inl ⟨by simpa [Gate.has] using e, if_neg e⟩

/-- R180: a gate that may grant nobody changes nothing. -/
theorem gateTest_none {s : State} (h : s.grantable = none) : gateTest s = quiet s := by
  simp only [gateTest, h]

/-! ### Links and watches -/

/-- R192: beginning the head notice shortens the queue or leaves the link as it was. -/
theorem pumpNotice_length (l : Link) : l.pumpNotice.notices.length ≤ l.notices.length := by
  simp only [Link.pumpNotice]
  split
  · next h => simp [h]
  · exact Nat.le_refl _

/-- R194, R195: a notice queued on a link keeps its queue within 16. -/
theorem push_length (x : Notice) (l : Link) : (l.push x).notices.length ≤ Config.noticeMax := by
  simp only [Link.push]
  split
  · next h =>
    refine Nat.le_trans (pumpNotice_length _) ?_
    simp only [List.length_append, List.length_cons, List.length_nil]
    omega
  · exact Nat.le_trans (pumpNotice_length _) (show 2 ≤ 16 by decide)

/-- R188, R194, R195: whatever is queued, the queue stays within 16. -/
theorem queue_length (x : Notice) {l : Link} (h : l.notices.length ≤ Config.noticeMax) :
    (l.queue x).notices.length ≤ Config.noticeMax := by
  simp only [Link.queue]
  split
  · split
    · split
      · simpa using h
      · exact push_length _ _
    · split
      · simpa using h
      · exact push_length _ _
    · exact push_length _ _
  · exact h

/-- Work on no element of a list that does nothing for each is nothing. -/
theorem forAll_id {α : Type} {l : List α} {f : α → State → State} {s : State} (h : ∀ a ∈ l, f a s = s) :
    forAll l f s = s := by
  induction l with
  | nil => rfl
  | cons a l ih =>
    have : forAll (a :: l) f s = forAll l f (f a s) := rfl
    rw [this, h a List.mem_cons_self]
    exact ih fun b hb => h b (List.mem_cons_of_mem _ hb)

/-- R197: no slot of an unwatched target is hit. -/
theorem watchStation_unwatched {t : Target} {s : State} (h : Unwatched t s) (m : WatchMode) (e : WatchEvent)
    (w : Option Writer) (n : Station) : watchStation t m e w n s = s :=
  forAll_id fun i _ => if_neg fun hi => h n i (by rw [hi]; rfl)

/-- R196: an unwatched target has no FIRE watch. -/
theorem Unwatched.noFire {t : Target} {s : State} (h : Unwatched t s) : NoFireWatch t s :=
  fun n i hi => h n i (by rw [hi]; rfl)

/-- R197: an event on a target without a FIRE watch queues nothing. -/
theorem fireWatch_noFire {t : Target} {s : State} (h : NoFireWatch t s) (e : WatchEvent) : fireWatch t e s = s :=
  forAll_id fun n _ => forAll_id fun i _ => if_neg (h n i)

/-- R197: an event on an unwatched target queues nothing. -/
theorem fireWatch_unwatched {t : Target} {s : State} (h : Unwatched t s) (e : WatchEvent) : fireWatch t e s = s :=
  fireWatch_noFire h.noFire e

/-- R197: a write of an unwatched target queues nothing. -/
theorem changeWatch_unwatched {t : Target} {s : State} (h : Unwatched t s) (e : WatchEvent) (w : Writer) :
    changeWatch t e w s = s :=
  forAll_id fun n _ => watchStation_unwatched h _ _ _ n

/-- R194, R197: what is told of a write does not meet a change elsewhere in the part. -/
theorem written_comm {g : State → State} (notices : ∀ n x s, notifyOne n x (g s) = g (notifyOne n x s))
    (watches : ∀ s, (g s).watches = s.watches) (time : ∀ s, (g s).tb = s.tb) (r : WatchedWrite) (n : Station)
    (item : Item) (t : Target) (s : State) : written r n item t (g s) = g (written r n item t s) := by
  have hits (e : WatchEvent) (w : Option Writer) (k : Station) (u : State) :
      watchStation t .change e w k (g u) = g (watchStation t .change e w k u) := by
    rw [watchStation, time]
    refine forAll_comm _ (fun i _ u => ?_) u
    simp only [watches, notices]
    split <;> rfl
  have told : announce item (.station n) (g s) = g (announce item (.station n) s) :=
    forAll_comm _ (fun k _ u => notices k _ u) s
  rw [written, told]
  exact forAll_comm _ (fun k _ u => hits _ _ k u) _

/-- R197: what is told of a write does not meet a circuit. -/
theorem written_onCircuit (c : CircuitNo) (f : Circuit → Circuit) (r : WatchedWrite) (n : Station) (item : Item)
    (t : Target) (s : State) : written r n item t (s.onCircuit c f) = (written r n item t s).onCircuit c f :=
  written_comm (g := fun u => u.onCircuit c f) (fun _ _ _ => rfl) (fun _ => rfl) (fun _ => rfl) r n item t s

/-- R197: what is told of a write does not meet the gate. -/
theorem written_onGate (f : Gate → Gate) (r : WatchedWrite) (n : Station) (item : Item) (t : Target) (s : State) :
    written r n item t (s.onGate f) = (written r n item t s).onGate f :=
  written_comm (g := fun u => u.onGate f) (fun _ _ _ => rfl) (fun _ => rfl) (fun _ => rfl) r n item t s

/-- R197: what is told of a write does not meet the pins. -/
theorem written_onPins (f : Pins → Pins) (r : WatchedWrite) (n : Station) (item : Item) (t : Target) (s : State) :
    written r n item t (s.onPins f) = (written r n item t s).onPins f :=
  written_comm (g := fun u => u.onPins f) (fun _ _ _ => rfl) (fun _ => rfl) (fun _ => rfl) r n item t s

/-! ### Jumps -/

/-- R4: a jump to the local time it left passes no boundary. -/
theorem Jump.passed_current {j : Jump} (h : j.new.index = j.old.index) : j.passed = none := by
  simp [Jump.passed, Jump.forward, Jump.backward, h]

/-- R88: a boundary that is passed comes after the old local time, or is the new local time itself. -/
theorem Jump.passed_spec {j : Jump} {b late : Nat} (h : j.passed = some (b, late)) :
    b = j.new.secs / 900 * 15 ∧ late = j.new.secs % 900 * 1000 ∧
      (j.old.index < j.new.index - (j.new.secs % 900 : Nat) ∨ (j.new.index < j.old.index ∧ j.new.secs % 900 = 0)) := by
  simp only [Jump.passed, Jump.forward, Jump.backward, Option.ite_none_right_eq_some, Option.some.injEq, Prod.mk.injEq,
    Bool.or_eq_true, Bool.and_eq_true, decide_eq_true_eq, beq_iff_eq] at h
  obtain ⟨hp, rfl, rfl⟩ := h
  exact ⟨rfl, rfl, by omega⟩

/-- R8: the day before a date has the day count before it. -/
theorem dayCount_prevDate {d : Date} (hy : 1 ≤ d.year) (hm : 1 ≤ d.month) (hd : 1 ≤ d.day) :
    dayCount (prevDate d) = dayCount d - 1 := by
  obtain ⟨y, m, n⟩ := d
  simp only at hy hm hd
  unfold prevDate
  split
  · simp only [dayCount] at *
    omega
  · split
    · obtain ⟨k, rfl⟩ : ∃ k, m = k + 2 := ⟨m - 2, by simp only at *; omega⟩
      simp only [dayCount, daysBefore, Nat.add_succ_sub_one] at *
      omega
    · obtain rfl : m = 1 := by simp only at *; omega
      have hl : monthLength (y - 1) 2 = if (y - 1) % 4 = 0 then 29 else 28 := by simp [monthLength, leapYear]
      have hb : daysBefore (y - 1) 12 = 306 + monthLength (y - 1) 2 := by simp [daysBefore, monthLength]; omega
      simp only [dayCount, daysBefore] at *
      split at hl <;> omega

/-- R15: the second before a local time is one second back, over midnight too. -/
theorem DayTime.secondBefore_index {t : DayTime} (hy : 1 ≤ t.date.year) (hm : 1 ≤ t.date.month) (hd : 1 ≤ t.date.day) :
    t.secondBefore.index = t.index - 1 := by
  unfold DayTime.secondBefore
  split
  · simp only [DayTime.index, dayCount_prevDate hy hm hd]
    omega
  · simp only [DayTime.index]
    omega

/-- R4, R15: a request leaves the present local time, but where a boundary has not been reached. -/
theorem State.localLeft_cases (s : State) :
    (s.boundaryUnseen = false ∧ s.localLeft = s.tb.loc) ∨
      (s.boundaryUnseen = true ∧ s.localLeft = s.tb.loc.secondBefore) := by
  cases h : s.boundaryUnseen <;> simp [State.localLeft, h]

/-- R14, R15: a boundary that an event of the time base has stood for is seen, so no second event stands for it. -/
theorem boundaryUnseen_see (s : State) : (s.onTb TimeBase.see).boundaryUnseen = false := by
  simp [State.boundaryUnseen, State.onTb, TimeBase.see, TimeBase.stdMinute]

/-! ### Flood circuits and drives -/

/-- R168: opening a contactor writes its own circuit and input, and nothing else. -/
theorem openCircuit_spec (c : CircuitNo) (s : State) :
    openCircuit c s = { s with
      circuits := put s.circuits c { s.circuits[c] with contactor := false, lastOpen := s.timer, fbDeadline := none },
      pins := { s.pins with feedback := put s.pins.feedback c false } } := rfl

/-- R169: current makes a CLOSING circuit ON, its 500 ms beginning, and another state is left as it is. -/
theorem circuitLit_cases (c : CircuitNo) (s : State) :
    (s.circuits[c].state = .closing ∧
        circuitLit c s = setCircuit c .on (s.onCircuit c fun x => { x with fbDeadline := none, fbFrom := s.timer })) ∨
      (s.circuits[c].state ≠ .closing ∧ circuitLit c s = s) := by
  by_cases e : s.circuits[c].state = .closing
  · exact .inl ⟨e, if_pos e⟩
  · exact .inr ⟨e, if_neg e⟩

/-- R165: on a circuit without a FIRE watch a change of state is no more than that. -/
theorem setCircuit_noFire {c : CircuitNo} {s : State} (h : NoFireWatch (.circuit c) s) (st : CircuitState) :
    setCircuit c st s = s.onCircuit c fun x => { x with state := st } := by
  have hu : NoFireWatch (.circuit c) (s.onCircuit c fun x => { x with state := st }) := h
  unfold setCircuit
  exact ite_eq_left_iff.mpr fun _ => fireWatch_noFire hu _

/-- R165: on a circuit that no station watches a change of state is no more than that. -/
theorem setCircuit_unwatched {c : CircuitNo} {s : State} (h : Unwatched (.circuit c) s) (st : CircuitState) :
    setCircuit c st s = s.onCircuit c fun x => { x with state := st } := setCircuit_noFire h.noFire st

/-- R145: a stop time that has ended its swing stands. -/
theorem Drive.shift_ended {x : Drive} (h : x.cause = .ended) (delta : Int) : x.shift delta = x := if_pos h

/-- R128: any other stop time moves. -/
theorem Drive.shift_waiting {x : Drive} (h : x.cause ≠ .ended) (delta : Int) :
    x.shift delta = { x with stopTime := x.stopTime.map (· + delta) } := if_neg h

/-- R184, R201: at a stop only the inputs of closed contactors change, to absent. -/
theorem Pins.dark_feedback (circuits : Vector Circuit 8) (p : Pins) (c : CircuitNo) :
    (p.dark circuits).feedback[c] = (p.feedback[c] && !circuits[c].contactor) := by
  simp [Pins.dark]

/-! ### Reports inside a step -/

/-- A step with no report to run ends. -/
@[simp] theorem settleFor_nil (fuel : Nat) (s : State) : settleFor fuel [] s = s := by
  cases fuel <;> rfl

/-- The first report is run, and what it raises joins the end. -/
theorem settleFor_cons (fuel : Nat) (t : Task) (ts : List Task) (s : State) :
    settleFor (fuel + 1) (t :: ts) s = settleFor fuel (ts ++ (runTask t s).todo) (runTask t s).st := rfl

/-- R90, R113: with no toll and no tune waiting, a change on a bell that is no holder's reaches nobody. -/
theorem bellChanged_noHeads {s : State} (h : NoHeads s) (b : BellNo) : bellChanged b false s = quiet s := by
  have : s.tuneHeadOn b = false := by simp [State.tuneHeadOn, h.2]
  simp [bellChanged, Run.andThen, quiet, this]

/-! ### Cut impulses (R33) -/

/-- R33: a pulse cut late without LOAD leaves everything but the last polarity, which is the one sent or UNKNOWN. -/
theorem Dial.cutUnseen_spec (dial : DialNo) (timer : Nat) (sent : Polarity) (d : Dial) :
    ∃ p, (p = sent ∨ p = .unknown) ∧ d.cutUnseen dial timer sent = { d with lastPol := p } := by
  unfold Dial.cutUnseen
  split
  · exact ⟨sent, .inl rfl, rfl⟩
  · exact ⟨.unknown, .inr rfl, rfl⟩

/-- R33: an impulse in its pair's gap is cut: POS was sent. -/
theorem Dial.cut_gap {d : Dial} {i : Impulse} (h : d.inFlight = some i) (k : i.kind = .pairGap) (dial : DialNo)
    (timer : Nat) : d.cut dial timer = { d with inFlight := none, lastPol := .pos } := by
  simp [Dial.cut, h, k, ImpulseKind.drives]

/-! ### Swings and windows, in the words of the statements -/

/-- R132: a contactor that is opened. -/
theorem opened_eq_openedAt (timer : Nat) (x : Contactor) : x.opened timer = openedAt timer x := rfl

/-- R137, R138: the ending cause is set, unless one is set already. -/
theorem setCause_eq_causeOf (c : SwingCause) (x : Drive) : x.setCause c = { x with cause := causeOf c x } := by
  unfold Drive.setCause causeOf
  split <;> rfl

/-- R94: the source of a test strike hears its outcome. -/
theorem tellTest_eq_testTold (w : Window) (o : TestOutcome) (s : State) : tellTest w o s = testTold w o s := rfl

/-- R139: the checks of SWING STOP let those pass that may stop the swing. -/
theorem mayStop_iff (h : Head) (b : BellNo) (d : DriveNo) (s : State) :
    MayStop h b d s ↔
      ownsSwing h.station b d s = true ∨
        ((s.rightsOf h).ring = true ∧ (onBehalf b s && !(s.rightsOf h).install) = false) := by
  simp only [MayStop, ownsSwing, onBehalf, State.rightsOf]
  generalize s.drives[d].source = src
  cases src <;> cases s.bells[b].behalf <;> cases s.rights[h.station].install <;>
    simp [Option.isSome_iff_ne_none, or_assoc]

/-! ### What a frame spells (R190) -/

/-- R190: the request of a kind without fields has that kind as its code. -/
theorem emptyRequest_code {kind : Byte} {r : Request} (h : emptyRequest kind = some r) : requestCode r = kind :=
  eq_of_beq (List.find?_some (p := fun r => requestCode r == kind) h)

/-- R190: each request without fields is the request of its code. -/
theorem emptyRequest_of_mem : ∀ r ∈ emptyRequests, emptyRequest (requestCode r) = some r := by decide

/-- R190: a frame of a kind without fields and an empty body spells that kind's request, whatever is carried. -/
theorem spelled_empty {kind : Byte} {r : Request} (h : emptyRequest kind = some r) (carried : Option Request) :
    spelled kind 0 carried = some r := by
  simp only [spelled, bodyFits, h, Option.isSome_some, if_true, beq_self_eq_true]
  rfl

/-- R190: a frame whose body does not fit its kind spells no request. -/
theorem spelled_misfit {kind : Byte} {length : Nat} (h : bodyFits kind length = false) (carried : Option Request) :
    spelled kind length carried = none := by
  rw [spelled, h, if_neg Bool.false_ne_true]

end Sys2Proof.Machine
end

