-- ==== Sys2Proof/WellFormed.lean ====
section
/-! DEFINITION. What a command must be to be one the outside can send: the counts that a frame's kind fixes, and what a
sensor can report. Numbers out of range are NOT ill-formed: the owner's rule refuses or clamps them. -/

namespace Sys2Proof

/-- The counts that the request's own rule fixes for its body: R105 (1 … 16 steps), R173 (1 … 8 entries). -/
def Request.wf : Request → Bool
  | .tuneSteps _ _ steps => 1 ≤ steps.length && steps.length ≤ 16
  | .duskTableWrite _ entries => 1 ≤ entries.length && entries.length ≤ 8
  | _ => true

/-- A command that the outside can send. -/
def Instr.wf : Instr → Bool
  | .tuneSteps _ _ _ steps => 1 ≤ steps.length && steps.length ≤ 16
  | .duskTableWrite _ _ entries => 1 ≤ entries.length && entries.length ≤ 8
  -- a frame has at most 63 bytes (R187), and a run of bytes is not empty
  | .receiveFrame _ _ bytes carried =>
      1 ≤ bytes.length && bytes.length ≤ 63 && (carried.all Request.wf)
  -- a peak is an angle from the bottom in whole degrees (06, section 6.3)
  | .anglePeak _ angle => angle ≤ 180
  | _ => true

end Sys2Proof
end

