-- ==== Sys2Proof/Tests/Slice0.lean ====
section
/-! SUPPORT. The model's own tests: ill-formed commands, the spec's worked examples,
  and for each statement a witness, with
one conjunct for each of its clauses. -/

open Sys2Proof Sys2Proof.Machine

namespace Sys2Proof.Tests

-- One theorem at a time: checked side by side, the witnesses need more memory than the check allows.
set_option Elab.async false

/-- The next state of an outcome. -/
def nextOf (o : Host.Outcome State Fault Refusal) : State :=
  match o with
  | .next s => s
  | _ => State.reset
/-- Reset, some time later, with idle links. -/
def base : State := { State.reset with links := Vector.replicate 3 (startLink true), timer := 1000000 }
/-- 2024-06-15, 12:34:56 standard, VALID. -/
def timed : State := { base with
  tb := { base.tb with date := ⟨2024, 6, 15⟩, secs := 45296, validity := .valid, rule := factoryRule }.redecide.see }
/-- Station 1, with the key. -/
def h0 : Head := ⟨0, 7#8, true⟩
/-- Station 2, with the key. -/
def h1 : Head := ⟨1, 9#8, true⟩
/-- Station 1, without the key. -/
def h0n : Head := ⟨0, 7#8, false⟩
/-- A step. -/
def st (b : List BellNo) (l : Nat) : TuneStep := ⟨b, l⟩
/-- A READY slot. -/
def slotR : Slot := ⟨.ready, [65], 100, 2, [some (st [0] 8), some (st [] 4)], none, 0⟩
/-- A LOADING slot of station 1. -/
def slotL : Slot := ⟨.loading, [65], 100, 2, [some (st [0] 8), none], some 0, 1030000⟩
/-- A part with a tune, a load, an entry, a drive, a snapshot and a toll waiting. -/
def full : State :=
  let s := timed.onSlot 0 fun _ => slotR
  let s := s.onSlot 1 fun _ => slotL
  let s := s.setEntry 0 (some ⟨true, .station 0, .time 600, 127#7, none, none, .tune 0 1, none⟩)
  let s := s.onDrive 0 fun d => { d with bell := some 11 }
  { s with snapshot := some ⟨s.counters, 1, s.tb.loc, false⟩, tollQueue := [⟨0, 1, 2, .entry 3, 5⟩] }
/-- A strike. -/
def stk (id : Nat) (b : BellNo) (due : Int) (src : StrikeSource) (f : Bool) : Strike := ⟨id, b, due, src, f⟩
/-- A full strike list. -/
def l32 (s : State) : State := { s with strikes := List.replicate 32 (stk 1 0 (timed.now+99999) .hour false) }
/-- Bell 4 has still to recover. -/
def unrec (s : State) : State := s.onHammer 3 fun h => { h with lastPulse := 999900 }
/-- The hour run in its GAP. -/
def gap (st : Bool) (ge dl : Nat) : State :=
  ({ unrec timed with plan := { timed.plan with hourBell := 3, hourStrike := st } }).onHour fun x => { x with
    state := .gap, gapEnd := ge, deadline := dl, boundary := 780 }
/-- Every moment is silenced. -/
def quietAll (s : State) : State := { s with windows := put s.windows 0 ⟨true, 0, 0, 127#7, true, true, true⟩ }
/-- The hour run with a refused post. -/
def retry (ta : Nat) (due : Int) (dl : Nat) : State :=
  (unrec timed).onHour fun x => { x with
    state := .striking, retry := some ⟨due, ta⟩, bell := some 3, count := 3, done := 1, deadline := dl }
/-- The hour run with its mark to clear. -/
def clr (t : Nat) : State :=
  ((unrec timed).onHour fun x => { x with
    state := .striking, bell := some 3, count := 3, done := 3, clearAt := some t,
      lastFired := some 999000 }).onMarks 3 fun m => { m with hour := true }
/-- One toll waiting. -/
def tollQ (pt : Nat) : State := { timed with tollQueue := [⟨3, 5, 2, .entry 3, pt⟩] }
/-- A current toll. -/
def trn (done : Nat) (x : Option Retry) (c lf : Option Nat) : TollRun :=
  ⟨0, ⟨3, 5, 2, .entry 3, 5⟩, done, 0, x, lf, c⟩
/-- A toll rings. -/
def tollS (r : TollRun) : State := ({ timed with toll := some r }).onMarks 3 fun m => { m with toll := true }
/-- No station has INSTALL. -/
def noI (s : State) : State := { s with rights := Vector.replicate 3 ⟨true, true, true, true, false⟩ }
/-- A play at a step. -/
def playAt (sl : SlotNo) (idx rep reps : Nat) (na : Option Nat) (st0 : Nat) (src : TuneSource) : Play :=
  ⟨1, sl, [3], 100, src, reps, false, 5, rep, idx, na, 0, st0, ⟨0,0,0,0⟩⟩
/-- A play goes on. -/
def playing (s : State) (p : Play) : State :=
  (({ s with strikes := [] }).onSlot 0 fun _ => ⟨.ready, [65], 100, 2, [some (st [3] 8), some (st [] 4)], none,
    0⟩).onPlayer fun x => { x with play := some p }
/-- Tune requests waiting. -/
def tq (n : Nat) (pt : Nat) : List TuneReq := List.replicate n ⟨1, 0, .schedule 3, 1, pt, false⟩
/-- The player with a queue. -/
def queued (s : State) (l : List TuneReq) : State := s.onPlayer fun x => { x with queue := l }
/-- Drive 3 swings bell 4. -/
def sw (s : State) (f : Drive → Drive) : State := (s.onDrive 2 fun d => f { d with bell := some 3 })
/-- Bell 4 has a holder. -/
def hold (s : State) (h : Holder) (bh : Option Station) : State :=
  s.onBell 3 fun b => { b with holder := h, behalf := bh }
/-- SUPPLY LIMIT holds the gate. -/
def lim (s : State) : State := s.onGate fun g => { g with limit := true }
/-- Drive 3 is DOWN. -/
def dn : State := sw timed id
/-- Every link is without permissions. -/
def noR : State := { timed with rights := Vector.replicate 3 ⟨false, false, false, false, false⟩ }
/-- The second dial, changed by `f`. -/
def dd (s : State) (f : Dial → Dial) : State := s.onDial 1 f
/-- A dial whose position `p` is known. -/
def kn (p : Nat) (d : Dial) : Dial := { d with known := true, pos := p, reported := some .catchingUp }
/-- The second of the local day in `timed`. -/
def loc := timed.tb.loc.secs
/-- The target position of a factory dial in `timed`. -/
def T : Nat := factoryDial.target loc
/-- The second dial is one step behind its target. -/
def sA : State := dd timed (kn (T-1))
/-- RESET is asserted. -/
def sOff : State := { sA with power := ⟨true, true, 0#32⟩ }
/-- Station 1 holds bell 4, whose hammer has recovered. -/
def held : State :=
  (timed.onBell 3 fun b => { b with holder := .station 0 }).onHammer 3 fun h => { h with lastPulse := 0 }
/-- Some notice. -/
def nt : Notice := .timeChanged .coldStart coldTimeInfo
/-- The transmitter is busy. -/
def busyTx (l : Link) : Link := { l with tx := some (.notice nt) }
/-- The REVERSE contactor opened at `t`. -/
def rv (t : Nat) (d : Drive) : Drive := { d with rev := ⟨false, t⟩ }
/-- The FORWARD contactor opened at `t`. -/
def fw (t : Nat) (d : Drive) : Drive := { d with fwd := ⟨false, t⟩ }
/-- The present tower ms. -/
def N : Int := timed.now
/-- The first link, changed by `f`. -/
def lk (f : Link → Link) : State := timed.onLink 0 f
/-- Some reply. -/
def rf : ReplyFrame := ⟨9, .done false .none, .nothing⟩
/-- Bell 4 has no strike sensor. -/
def noSens (s : State) : State := s.onHammer 3 fun h => { h with sensor := false }
/-- An impulse of 400 ms begun at `st`. -/
def imp (k : ImpulseKind) (st : Nat) (l : Bool) : Impulse := ⟨k, st, 400, l⟩
/-- A claim of station `n`. -/
def cl (n : Station) : Claim := ⟨.station n, .station n, none, some 5, 77⟩
/-- The third circuit, changed by `f`. -/
def ck (s : State) (f : Circuit → Circuit) : State := s.onCircuit 2 f
/-- Two feedback inputs read present. -/
def lt (s : State) : State := s.onPins fun p => { p with feedback := put (put p.feedback 2 true) 4 true }
/-- The third circuit in state `st`, under SUPPLY LIMIT. -/
def cs (st : CircuitState) (f : Circuit → Circuit) : State :=
  lt ((ck timed fun x => f { x with state := st }).onGate fun g => { g with limit := true })
/-- A force ON for a minute, the contactor closed. -/
def frc (x : Circuit) : Circuit := { x with force := some ⟨true, 1, .tower timed.now⟩, contactor := true }
/-- The contactor opened ten minutes ago. -/
def old (x : Circuit) : Circuit := { x with lastOpen := 400000 }
/-- The contactor opened 1 ms less than ten minutes ago. -/
def young (x : Circuit) : Circuit := { x with lastOpen := 400001 }
/-- The plan wants the circuit ON. -/
def pon (x : Circuit) : Circuit := { x with planOn := true }
/-- The second station watches the target for CHANGE with its last slot. -/
def cw (t : Target) (s : State) : State :=
  { s with watches := put s.watches 1 (put s.watches[(1 : Fin 3)] 3 (some ⟨t, .change⟩)) }
/-- Two requests wait at the gate. -/
def gw (s : State) : State := s.onGate fun g => { g with queue := [⟨.drive 1, 5⟩, ⟨.circuit 2, 6⟩] }

/-! ### Ill-formed commands, one for each check of WellFormed -/

theorem test_no_steps_ill_formed : (Instr.tuneSteps h0 0 0 []).wf = false := by decide
theorem test_seventeen_steps_ill_formed : (Instr.tuneSteps h0 0 0 (List.replicate 17 ⟨[], 1⟩)).wf = false := by decide
theorem test_no_sun_pairs_ill_formed : (Instr.duskTableWrite h0 0 []).wf = false := by decide
theorem test_nine_sun_pairs_ill_formed : (Instr.duskTableWrite h0 0 (List.replicate 9 ⟨0, 0⟩)).wf = false := by decide
theorem test_no_bytes_ill_formed : (Instr.receiveFrame 0 true [] none).wf = false := by decide
theorem test_sixty_four_bytes_ill_formed :
    (Instr.receiveFrame 0 true (List.replicate 64 ⟨0, true⟩) none).wf = false := by decide
theorem test_carried_ill_formed :
    (Instr.receiveFrame 0 true [⟨0xD3#8, true⟩] (some (.tuneSteps 0 0 []))).wf = false := by decide
theorem test_peak_above_half_turn_ill_formed : (Instr.anglePeak 0 181).wf = false := by decide
theorem test_peak_of_half_turn_well_formed : (Instr.anglePeak 0 180).wf = true := by decide

/-- No row of the opcode table gives bits, so no word spells a command. -/
theorem test_no_word_spells : decodeTableWord 8 2 = none := by decide

/-! ### The spec's worked examples -/

/-- 01, Worked Example: Summer Instants for 2025. -/
theorem test_summer_instants_2025 :
    dayCount ⟨2025, 1, 1⟩ = 9132 ∧ weekday ⟨2025, 3, 31⟩ = 1 ∧ weekday ⟨2025, 10, 31⟩ = 5 ∧
      ruleStart factoryRule 2025 = ⟨⟨2025, 3, 30⟩, 60⟩ ∧ ruleStop factoryRule 2025 = ⟨⟨2025, 10, 26⟩, 60⟩ ∧
      occurrenceDay 2025 10 (.nth 1) 0 = 5 ∧ occurrenceDay 2025 4 (.nth 1) 0 = 6 := by decide +kernel

/-- 01, Worked Example: The Two Summer Instants of 2025: one ms after 00:59:59.999 WINTER, then the change. -/
def spring2025 : State :=
  { timed with tb := { timed.tb with date := ⟨2025, 3, 30⟩, secs := 3600, ms := 0, summer := .winter } }

theorem test_spring_change_2025 :
    let t := nextOf (exec .summerChange spring2025)
    t.tb.loc = ⟨⟨2025, 3, 30⟩, 7200⟩ ∧ t.tb.lastSeen.localMinute = 120 ∧ t.tb.summer = .summer := by decide +kernel

/-- 08, Worked Example: Dusk and Dawn on Four Dates, with the factory table and rule. -/
theorem test_dusk_and_dawn :
    State.reset.stdDusk ⟨2025, 3, 20⟩ = 1108 ∧ State.reset.triggerMinute (.dusk 15) ⟨2025, 3, 20⟩ = 1123 ∧
      State.reset.stdDawn ⟨2025, 3, 20⟩ = 363 ∧ State.reset.stdDusk ⟨2028, 2, 25⟩ = 1083 ∧
      State.reset.stdDusk ⟨2027, 2, 25⟩ = 1084 ∧ State.reset.stdDawn ⟨2025, 12, 28⟩ = 481 ∧
      State.reset.triggerMinute (.dusk 0) ⟨2025, 6, 20⟩ = 1290 ∧
      State.reset.triggerMinute (.dusk 120) ⟨2025, 6, 20⟩ = 1410 := by decide +kernel

/-- 02, section 2.10 and 2.11: a 30 s dial before and after the summer changes, and the edge of hold. -/
def dial30 (pos hold : Nat) : Dial := { factoryDial with step := .s30, pos := pos, hold := hold, known := true }

theorem test_dial_at_the_changes :
    (dial30 0 90).target 3570 = 119 ∧ (dial30 119 90).distance 7200 = 121 ∧ (dial30 239 90).distance 3600 = 1321 := by
  decide

/-- The time base at local 01:00:00 of a winter day. -/
def oneOClock : TimeBase := { State.reset.tb with date := ⟨2025, 10, 26⟩, secs := 3600, validity := .valid }

theorem test_edge_of_hold :
    (dial30 239 90).stateAt oneOClock = .holding ∧ (dial30 239 60).stateAt oneOClock = .holding ∧
      (dial30 239 59).stateAt oneOClock = .catchingUp := by decide +kernel

/-- 06, section 6.4: the widths of Raising a Bell. -/
def raising (pPrev peak : Nat) : Drive := { factoryDrive 0 with pPrev := pPrev, lastPeak := some peak }

theorem test_raising_a_bell :
    (raising 400 34).lawWidth = 704 ∧ (raising 704 52).lawWidth = 800 ∧ (raising 800 115).lawWidth = 780 ∧
      (raising 780 118).lawWidth = 748 ∧ (raising 728 110).lawWidth = 728 ∧ (raising 300 96).lawWidth = 356 := by decide

/-- R33: a NEG impulse of 400 ms in flight on DIAL1 from reading 0, LOAD seen or not. -/
def inImpulse (load : Bool) : Dial := { factoryDial with
  pos := 5, lastPol := .pos, inFlight := some ⟨.single .neg, 0, 400, load⟩ }

theorem test_cut_impulses :
    ((inImpulse true).cut 0 199).pos = 5 ∧ ((inImpulse true).cut 0 199).lastPol = .pos ∧
      ((inImpulse true).cut 0 200).pos = 6 ∧ ((inImpulse true).cut 0 200).lastPol = .neg ∧
      ((inImpulse false).cut 0 200).pos = 5 ∧ ((inImpulse false).cut 0 199).lastPol = .pos := by decide

/-- 06, section 6.4: the reverse contactor opened at 0, and a forward pulse begins at 200 ms with a dead time of 300. -/
def deadTimePulse (plannedEnd : Option Nat) : Option SwingPulse :=
  ((factoryDrive 0).beginPulse 200 .forward plannedEnd).pulse

theorem test_dead_time_delays_or_skips :
    deadTimePulse none = some ⟨.forward, none, false⟩ ∧ deadTimePulse (some 380) = some ⟨.forward, some 380, false⟩ ∧
      deadTimePulse (some 320) = none := by decide

/-- 04, Worked Example: Four Blows and Three Coils: B2, B5, B8 of a tune and B10 of station 2, due together. -/
def fourBlows : State :=
  let x := fun (id : Nat) (b : BellNo) (src : StrikeSource) => (⟨id, b, timed.now, src, false⟩ : Strike)
  { timed.onBell 9 (fun b => { b with holder := .station 1 }) with
    strikes := [x 0 1 (.tune 1), x 1 4 (.tune 1), x 2 7 (.tune 1), x 3 9 (.hand 1 5)] }

theorem test_three_coils :
    let t := nextOf (exec .strikeDue fourBlows)
    t.busy 1 = true ∧ t.busy 4 = true ∧ t.busy 7 = true ∧ t.busy 9 = false ∧ t.strikes.map Strike.bell = [9] ∧
      t.counters.bells[1].commanded = 1 ∧ t.counters.bells[9].commanded = 0 := by decide +kernel

/-! ### What the part shows outside (R187, R190, R191, R201) -/

/-- 09, R194, R197: behind the CHANGED of a force and of its clearing, the other station's hit names the request, its
writer and the tower time. -/
theorem test_hit_names_the_request :
    let force := nextOf (exec (.floodForce h0 3 true .untilChange) (cw (.circuit 2) timed))
    let clear := nextOf (exec (.floodClear h0 3) (cw (.circuit 2) (ck timed frc)))
    let hit := fun r : WatchedWrite =>
      Notice.watchHit 3 (.circuit 2) .change (.written r) (some (.station 0)) timed.tb.loc
    force.links[1].notices = [hit .floodForce] ∧ clear.links[1].notices = [hit .floodClear] ∧
      force.links[0].notices = [] := by decide +kernel

/-- R187, R188, R190: TIME READ with tag 5 as bytes: D3 02 02 05 F7 is passed to its owner whatever is carried. -/
theorem test_time_read_as_bytes :
    wireFrame 0x02#8 0x05#8 [] = [0xD3#8, 0x02#8, 0x02#8, 0x05#8, 0xF7#8] ∧
      nextOf (exec (.receiveFrame 0 true ((wireFrame 0x02#8 0x05#8 []).map fun b => ⟨b,
        true⟩) (some .tuneStop)) timed) =
        nextOf (exec (.timeRead ⟨0, 5#8, true⟩) timed) := by decide +kernel

/-- R190, R191, R194: the reply to a HAND STRIKE on bell 13 is REFUSED (0x83), tag 7, reason BAD VALUE (0x07). -/
theorem test_refused_reply_codes :
    let f := (nextOf (exec (.handStrike h0 13 0) timed)).links[0].tx
    f.map OutFrame.kind = some 0x83#8 ∧ f.map OutFrame.tag = some 7#8 ∧
      (refuse .keyRequired).lead = [0x0C#8] := by decide +kernel

/-- R125, R131: bell 4 rings with its forward contactor closed. -/
def ringingNow : State := sw timed fun d => { d with state := .ringing, fwd := ⟨true, 0⟩ }

/-- R18, R201: the drive shows its actuator and contactor, and mains loss turns every output off. -/
theorem test_outputs_off_at_mains_loss :
    ringingNow.outputs.lifts[2] = true ∧ ringingNow.outputs.forward[2] = true ∧
      (nextOf (exec .mainsLoss ringingNow)).outputs = .off ∧ State.reset.outputs = .off := by decide +kernel

/-! ### The law states, and a step that keeps them -/

theorem witness_ContactorsStayApart_BoundsHold_DialsClockAndBehalfsStayInOrder :
    (ContactorsApart timed ∧ CircuitsWait timed ∧ GateTimed timed ∧ Bounded timed ∧ DialsOnFace timed ∧
      ClockInRange timed.tb ∧ BehalfsInOrder timed) ∧
      step { timed with pending := [.holdover] } = .next timed := ⟨by and_intros <;> decide +kernel, rfl⟩

/-- A circuit whose restrike delay has just passed waits alone at the gate, whose stagger interval has just passed. -/
def atGate : State :=
  { (ck timed fun x => { old x with state := .waiting }) with
    gate := { timed.gate with queue := [⟨.circuit 2, 6⟩], grants := 1, lastGrant := some 997000 }
    pending := [.staggerEnd] }

theorem witness_ContactorsStayApart_grant :
    CircuitsWait atGate ∧ GateTimed atGate ∧ (nextOf (step atGate)).circuits[2].contactor = true ∧
      (nextOf (step atGate)).gate.grants = atGate.gate.grants + 1 := by
  and_intros <;> decide +kernel

/-- Station 1 holds bell 4, whose reverse contactor has been open for the dead time, and all bytes of a JOG but its
check have come. -/
def atCheck : State :=
  (hold (sw timed (rv 999700)) (.station 0) none).onLink 0 fun l =>
    { l with rx := .assembling [6#8, 0x42#8, 7#8, 4#8, 0#8, 1#8, 0xF4#8] 999999 }

theorem witness_ContactorsStayApart_byte :
    ContactorsApart atCheck ∧ CircuitsWait atCheck ∧ GateTimed atCheck ∧ atCheck.drives[2].fwd.closed = false ∧
      (receiveByte 0 true (some (.jog 4 .forward 500)) ⟨0xB8#8, true⟩ atCheck).drives[2].fwd.closed = true := by
  and_intros <;> decide +kernel

/-! ### Witnesses: for each statement, states and operands that meet the hypotheses of each of its clauses -/

namespace Reads

theorem witness_TimeDialBellAndHammerReads :
    (Ready h0 base ∧ (0 = 0 ∨ 4 < 0)) ∧
    (Ready h0 base ∧ 18 < 19) ∧
    (Ready h0 base ∧ 0 ≤ 18 ∧ base.snapshot = none) ∧
    (let s : Snapshot := (⟨full.counters, 1, full.tb.loc, false⟩ : Snapshot); Ready h0 full ∧
      full.snapshot = some s) := by
  and_intros <;> decide +kernel

theorem witness_TuneSwingAndScheduleReads :
    (Ready h0 base ∧ base.slots[0].state = SlotState.empty) ∧
    (Ready h0 full ∧ full.slots[0].state ≠ SlotState.empty ∧ 0 < full.slots[0].count) ∧
    (Ready h0 full ∧ full.slots[0].state ≠ SlotState.empty ∧ full.slots[0].count ≤ 2) := by
  and_intros <;> decide +kernel

theorem witness_FloodGateAndLinkReads :
    (Ready h0 base) :=
  by decide +kernel

end Reads

namespace Writes

theorem witness_NotPermittedChangesNothing :
    (Ready h0 noR ∧ noR.rights[h0.station] = ⟨false, false, false, false, false⟩) :=
  by decide +kernel

end Writes

namespace Time

def hold : State := { timed with tb := { timed.tb with sinceSet := 172800000 } }
def rng : State :=
  { full with
    strikes := [⟨0, 3, full.now + 5, .hour, true⟩]
    tb := { full.tb with date := ⟨2099,12,31⟩, secs := 86399, ms := 999 } }
def tb1 : TimeBase := { timed.tb with secs := 86399, ms := 999 , date := ⟨2024,2,28⟩}

theorem witness_CalendarOfTheCentury :
    (2000 ≤ (⟨2024, 2, 16⟩ : Date).year ∧ 1 ≤ (⟨2024, 2, 16⟩ : Date).month ∧ (⟨2024, 2, 16⟩ : Date).month ≤ 12) ∧
    (2000 ≤ 2024 ∧ 1 ≤ 2 ∧ 2 ≤ 12 ∧ 1 ≤ 2 ∧ 2 ≤ 4 ∧ 2 ≤ 6) ∧
    (16 ≤ (⟨2024, 2, 16⟩ : Date).day) := by
  and_intros <;> decide +kernel

theorem witness_RuleWriteReplacesTheRule :
    (Ready h0 full ∧ full.rights[h0.station].time = true ∧ ruleIdentitiesOk factoryRule = true) :=
  by decide +kernel

theorem witness_HoldoverAndRangeEnd :
    ((timed.tb.validity ≠ Validity.valid ∨ timed.tb.sinceSet < 172800000)) ∧
    (hold.tb.validity = Validity.valid ∧ 172800000 ≤ hold.tb.sinceSet) ∧
    (timed.tb.atRangeEnd = false) ∧
    (rng.tb.atRangeEnd = true) := by
  and_intros <;> decide +kernel

theorem witness_StepRunsFrontCommand :
    (let s : State := { timed with pending := [.holdover] }; s.pending = [Instr.holdover]) :=
  by decide +kernel

/-- R15: a rule that is not enabled, written at the summer instant before the change is taken, leaves the boundary its
minute event. -/
theorem test_rule_write_before_the_summer_change :
    let t := nextOf (exec (.dstRuleWrite h0 { spring2025.tb.rule with enabled := false }) spring2025)
    t.tb.summer = .winter ∧ t.tb.changeDue = false ∧ t.minuteDue = true := by decide +kernel

theorem witness_IdleStepCountsTime :
    (timed.pending = []) ∧
    (realDate tb1.date = true ∧ tb1.secs < 86400 ∧ tb1.ms < 1000 ∧ tb1.atRangeEnd = false) ∧
    (spring2025.running = true ∧ spring2025.tb.atMinute = true ∧
      spring2025.tb.lastSeen.stdDate ≠ spring2025.tb.date ∧ spring2025.tb.decision ≠ spring2025.tb.summer) := by
  and_intros <;> decide +kernel

end Time

namespace Dials

def dK (p : Nat) : Dial := kn p factoryDial
def sH : State := dd timed fun d => { kn (T+5) d with reported := some .holding }
theorem witness_DialDistanceAndState :
    ((dK (T + 91)).pos < (dK (T + 91)).n) ∧
    ((dK (T + 91)).present = true ∧ (dK (T + 91)).fault = DialFault.none ∧ (dK (T + 91)).runEnable = true ∧
      (dK (T + 91)).known = true ∧ timed.tb.validity ≠ Validity.unset ∧ 1 ≤ (dK (T + 91)).distance timed.tb.loc.secs ∧
      (dK (T + 91)).distance timed.tb.loc.secs + (dK (T + 91)).hold * 60 / (dK (T + 91)).step.secs < (dK (T + 91)).n) ∧
    ((dK (T + 91)).present = true ∧ (dK (T + 91)).fault = DialFault.none ∧ ((dK (T + 91)).runEnable = false ∨
      (dK (T + 91)).known = false ∨ base.tb.validity = Validity.unset)) ∧
    ((dK (T + 90)).present = true ∧ (dK (T + 90)).fault = DialFault.none ∧ (dK (T + 90)).runEnable = true ∧
      (dK (T + 90)).known = true ∧ timed.tb.validity ≠ Validity.unset ∧ 1 ≤ (dK (T + 90)).distance timed.tb.loc.secs ∧
      (dK (T + 90)).n ≤ (dK (T + 90)).distance timed.tb.loc.secs + (dK (T + 90)).hold * 60 / (dK (T + 90)).step.secs) ∧
    ((dK T).present = true ∧ (dK T).fault = DialFault.none ∧ (dK T).runEnable = true ∧ (dK T).known = true ∧
      timed.tb.validity ≠ Validity.unset ∧ (dK T).distance timed.tb.loc.secs = 0) ∧
    (let s : Dial := {dK 0 with fault := .short}; s.present = true ∧ s.fault ≠ DialFault.none) := by
  and_intros <;> decide +kernel

theorem witness_DialDecisionsStartImpulses :
    (sA.dials[1].present = true ∧ Unwatched (Target.dial 1) sA) ∧
    (let s : Instr := Instr.targetIncrement 1; (s = Instr.targetIncrement 1 ∨ s = Instr.dialFastIntervalEnd 1) ∧
      sA.running = true ∧ sA.dials[1].stateAt sA.tb = DialState.catchingUp ∧
      sA.dials[1].reported = some DialState.catchingUp ∧ sA.dials[1].inFlight = none ∧ (∀ (t : Nat),
      sA.dials[1].lastStart = some t → t + sA.dials[1].fast * 1000 ≤ sA.timer)) ∧
    (let s : Instr := Instr.targetIncrement 1; (s = Instr.targetIncrement 1 ∨ s = Instr.dialFastIntervalEnd 1) ∧
      sH.running = true ∧ sH.dials[1].stateAt sH.tb ≠ DialState.catchingUp ∧
      sH.dials[1].reported = some (sH.dials[1].stateAt sH.tb) ∧ sH.dials[1].holdBack = false) ∧
    (let s : Instr := Instr.targetIncrement 1; (s = Instr.targetIncrement 1 ∨ s = Instr.dialFastIntervalEnd 1) ∧
      sOff.running = false) := by
  and_intros <;> decide +kernel

end Dials

namespace Hammers

def stk (id : Nat) (b : BellNo) (due : Int) (src : StrikeSource) (f : Bool) : Strike := ⟨id, b, due, src, f⟩
def wl : State := held.onHammer 3 fun h => { h with misses := 2, window := some ⟨999990, true, none⟩ }

theorem witness_PostsKeepTheListInOrder :
    ([stk 1 0 5 .hour false, stk 2 0 10 .hour false, stk 3 1 10 .hour false].Pairwise fun a b => a.due ≤ b.due) :=
  by decide +kernel

theorem witness_PlanHammerAndCounterWrites :
    (Ready h0 wl ∧ wl.rights[h0.station].program = true) ∧
    (Ready h0 wl ∧ wl.rights[h0.station].ring = true) := by
  and_intros <;> decide +kernel

end Hammers

namespace Tolls

def pl2 : State :=
  full.onPlayer fun p => { p with
    play := some ⟨1, 0, [0], 100, .schedule 3, 1, false, 5, 0, 0, some 1000000, 0, 900000, ⟨0,0,0,0⟩⟩ }
def full768 : State :=
  (full.onSlot 2 fun _ => ⟨.ready, [65], 100, 256, [], none, 0⟩).onSlot 3 (fun _ => ⟨.ready, [65], 100, 256, [], none,
    0⟩) |>.onSlot 4 (fun _ => ⟨.ready, [65], 100, 250, [], none, 0⟩)
def ldd : State := full.onSlot 1 fun _ => ⟨.loading, [65], 100, 2, [some (st [0] 8), some (st [] 4)], some 0, 1000000⟩
def noI (s : State) : State := { s with rights := Vector.replicate 3 ⟨true, true, true, true, false⟩ }
def sb (l : List Nat) (n : Nat) : StepBody := ⟨l, n⟩

theorem witness_StepAndPlayTimes :
    (1 ≤ 1) ∧
    (Ready h0 full ∧ full.slots[0].state = SlotState.ready ∧ 0 < full.slots[0].count) ∧
    (let s : Slot := ⟨.ready, [65], 120, 8, List.replicate 8 (some (st [] 1)), none, 0⟩; s.tempo = 120 ∧
      List.map TuneStep.length s.written = List.replicate 8 1) := by
  and_intros <;> decide +kernel

theorem witness_TuneBeginReservesThePool :
    (Ready h0 full ∧ full.rights[h0.station].program = true ∧ 1 ≤ 2 ∧ 2 ≤ 256 ∧ nameOk [65] = true ∧ (¬((∃ p,
      full.player.play = some p ∧ p.slot = 0) ∨ full.slots[0].state = SlotState.loading ∧
      full.slots[0].loader ≠ some h0.station)) ∧ 2 ≤ full.poolFree + full.slots[0].reserved ∧ (∀ (r : TuneReq),
      r ∈ full.player.queue → r.slot ≠ 0)) ∧
    (Ready h0 pl2 ∧ pl2.rights[h0.station].program = true ∧ 1 ≤ 2 ∧ 2 ≤ 256 ∧ nameOk [65] = true ∧ ((∃ p,
      pl2.player.play = some p ∧ p.slot = 0) ∨ pl2.slots[0].state = SlotState.loading ∧
      pl2.slots[0].loader ≠ some h0.station)) ∧
    (Ready h0 full768 ∧ full768.rights[h0.station].program = true ∧ 1 ≤ 8 ∧ 8 ≤ 256 ∧ nameOk [65] = true ∧ (¬((∃ p,
      full768.player.play = some p ∧ p.slot = 0) ∨ full768.slots[0].state = SlotState.loading ∧
      full768.slots[0].loader ≠ some h0.station)) ∧ full768.poolFree + full768.slots[0].reserved < 8) ∧
    (full.poolUsed ≤ 768) := by
  and_intros <;> decide +kernel

theorem witness_TuneLoading :
    (Ready h0 full ∧ full.rights[h0.station].program = true ∧ full.slots[0].state ≠ SlotState.loading) ∧
    ((full.slots[0].state ≠ SlotState.loading ∨ full.timer < full.slots[0].loadEnd)) ∧
    (Ready h0 full ∧ full.rights[h0.station].program = true ∧ full.slots[1].state = .loading ∧
      full.slots[1].loader = some h0.station ∧ [sb [3, 1] 33].mapM readStep = some [st [0, 2] 32] ∧
      1 + 1 ≤ full.slots[1].count) ∧
    (let s : List (Option TuneStep) := [some (st [0] 8)]; Ready h0 full ∧ full.rights[h0.station].program = true ∧
      full.slots[1].state = SlotState.loading ∧ full.slots[1].loader = some h0.station ∧
      full.slots[1].steps = s ++ [none] ∧ (∀ (x : Option TuneStep), x ∈ s → x ≠ none)) ∧
    (let s : State := noI full; Ready h1 s ∧ s.rights[h1.station].program = true ∧
      s.slots[1].state = SlotState.loading ∧ s.slots[1].loader ≠ some h1.station ∧
      s.rights[h1.station].install = false) ∧
    (Ready h0 ldd ∧ ldd.rights[h0.station].program = true ∧ ldd.slots[1].state = SlotState.loading ∧
      ldd.slots[1].loader = some h0.station ∧ (∀ (x : Option TuneStep), x ∈ ldd.slots[1].steps → x ≠ none)) ∧
    (ldd.running = true ∧ ldd.slots[1].state = SlotState.loading ∧ ldd.slots[1].loadEnd ≤ ldd.timer) := by
  and_intros <;> decide +kernel

end Tolls

namespace Swings

def dv (st : SwingState) (f : Drive → Drive) : State := hold (sw timed fun d => { f d with state := st }) .swing none
def lp (a : Nat) (pp : Nat) (d : Drive) : Drive := { d with lastPeak := some a, pPrev := pp }
def ro (t : Nat) (d : Drive) : Drive := { d with rev := ⟨false, t⟩, fwd := ⟨true, 5⟩ }
def nb (d : Drive) : Drive := { d with brake := false }
/-- The pulse width of the law. -/
def law (x : Drive) : Nat :=
  (max 0 (min 800 ((x.pPrev : Int) + 4 * ((x.target : Int) - (x.lastPeak.getD 0 : Nat))))).toNat

theorem witness_CrossingsPulseByTheLaw :
    (let s : State := dv .kick id; s.running = true ∧ s.drives[2].pulse = none ∧
      s.drives[2].state = SwingState.kick ∧
      (s.drives[2].rev.closed = false ∧ s.drives[2].rev.lastOpened + s.drives[2].deadTime ≤ s.timer)) ∧
    (let s : State := dv .rise (lp 110 400); s.running = true ∧ s.drives[2].pulse = none ∧
      (s.drives[2].state = SwingState.rise ∨
      s.drives[2].state = SwingState.ringing) ∧ (s.drives[2].rev.closed = false ∧
      s.drives[2].rev.lastOpened + s.drives[2].deadTime ≤ s.timer) ∧
      0 < law s.drives[2]) ∧
    (let s : State := dv .ringing (lp 169 10); s.running = true ∧ s.drives[2].pulse = none ∧
      (s.drives[2].state = SwingState.rise ∨
      s.drives[2].state = SwingState.ringing) ∧
      law s.drives[2] = 0) ∧
    (let s : State := dv .stopping nb; s.running = true ∧ s.drives[2].pulse = none ∧
      s.drives[2].state = SwingState.stopping ∧
      s.drives[2].brake = false) ∧
    (let s : State := dv .down id; s.running = true ∧ s.drives[2].pulse = none ∧
      (s.drives[2].state = SwingState.down ∨
      s.drives[2].state = SwingState.lift ∨ s.drives[2].state = SwingState.queued ∨
      s.drives[2].state = SwingState.settle ∨ s.drives[2].state = SwingState.drop)) ∧
    (let s : State := dv .stopping (ro 999699); s.running = true ∧ s.drives[2].pulse = none ∧
      s.drives[2].state = SwingState.stopping ∧
      s.drives[2].brake = true ∧ (s.drives[2].rev.closed = false ∧
      s.drives[2].rev.lastOpened + s.drives[2].deadTime ≤ s.timer)) := by
  and_intros <;> decide +kernel

end Swings

namespace Floods

def en (o : Owner) (s : State) : State :=
  s.setEntry 5 (some ⟨true, o, .time 600, 127#7, none, none, .tune 0 1, some ⟨2024,1,1⟩⟩)
def eb (t : TriggerBody) (a : ActionBody) (w : Option (MonthDay × MonthDay)) (o : Option Date) : EntryBody :=
  ⟨true, t, 127#7, w, o, a⟩
def ent (dy : BitVec 7) (w : Option (MonthDay × MonthDay)) (o : Option Date) : Entry :=
  ⟨true, .station 1, .time 600, dy, w, o, .tune 0 1, none⟩
theorem witness_ScheduleWrites :
    (let s : EntryBody := eb (.time 1440) (.tune 3 9) none none; Ready h0 timed ∧
      timed.rights[h0.station].program = true ∧ (∀ (e : Entry), timed.entries[5] = some e →
      e.owner = Owner.station h0.station ∨ timed.rights[h0.station].install = true) ∧
      readTrigger s.trigger = some (Trigger.time 1439) ∧ readAction s.action = some (Action.tune 3 4) ∧
      windowOk s.window = true ∧ (∀ (d : Date), s.oneShot = some d → realDate d = true)) ∧
    (Ready h0 timed ∧ timed.rights[h0.station].program = true ∧ timed.entries[5] = none) ∧
    (let s : State := en (.station 0) timed; Ready h0 s ∧ s.rights[h0.station].program = true ∧ (∀ (e : Entry),
      s.entries[5] = some e → e.owner = Owner.station h0.station ∨ s.rights[h0.station].install = true) ∧
      s.entries[5] ≠ none) ∧
    (let s : State := noI (en (.station 1) timed); Ready h0 s ∧ s.rights[h0.station].program = true ∧ (¬∀ (e : Entry),
      s.entries[5] = some e → e.owner = Owner.station h0.station ∨ s.rights[h0.station].install = true)) := by
  and_intros <;> decide +kernel

theorem witness_EntryAppliesOnItsDates :
    ((ent 0 none none).oneShot = none ∧ (ent 0 none none).window = none ∧ (ent 0 none none).days = 0) ∧
    ((ent 3 none (some ⟨2024, 2, 29⟩)).oneShot = some ⟨2024, 2, 29⟩) ∧
    ((ent 1 (some (⟨2, 29⟩, ⟨3, 1⟩)) none).window = some (⟨2, 29⟩, ⟨3, 1⟩)) ∧
    ((ent 127 (some (⟨3, 1⟩, ⟨2, 29⟩)) none).window = some (⟨3, 1⟩, ⟨2, 29⟩)) := by
  and_intros <;> decide +kernel

end Floods

namespace Links

def l0 : Link := startLink true
def cg (i : Item) (w : Writer) : Notice := .changed i w
def wt (n : Station) (i : Fin 4) (m : WatchMode) : State :=
  { timed with watches := put timed.watches n (put timed.watches[n] i (some ⟨.bell 3, m⟩)) }

theorem witness_NoticesAreQueued :
    ((busyTx l0).tx ≠ none ∧ (busyTx l0).enabled = true ∧ nt.isFrameError = false ∧
      nt = .timeChanged .coldStart coldTimeInfo ∧ (busyTx l0).notices.length < 16) ∧
    (let s : Link := { busyTx l0 with enabled := false }; s.tx ≠ none ∧ s.enabled = false) ∧
    (let s : Link := { busyTx l0 with notices := [nt, cg .dstRule .part, nt] }; s.tx ≠ none ∧ s.enabled = true ∧
      s.notices = [nt] ++ [Notice.changed Item.dstRule Writer.part, nt] ∧ (∀ (y : Notice), y ∈ [nt] ++ [nt] →
      Notice.isChanged Item.dstRule y = false)) ∧
    (let s : Link := { busyTx l0 with notices := List.replicate 16 nt, counts := ⟨0,0,0,0,0,0,65535⟩ }; s.tx ≠ none ∧
      s.enabled = true ∧ nt.isFrameError = false ∧ nt = .timeChanged .coldStart coldTimeInfo ∧ 16 ≤ s.notices.length) ∧
    (let s : State := wt 1 3 .fire; s.watches[1][3] = some ⟨.bell 3, .fire⟩ ∧ ∀ (k : Station) (j : Fin 4),
      (s.watches[k][j]).isSome = true → k = 1 ∧ j = 3) := by
  and_intros <;> decide +kernel

end Links

namespace Plays

def pA : Play := playAt 0 0 0 2 (some 1000000) 990000 (.schedule 3)
def pB : Play := playAt 0 1 0 2 (some 999990) 990000 (.schedule 3)
def pD : Play := playAt 0 0 1 2 (some 1000001) 990000 (.schedule 3)
def pool2 (s : State) : State :=
  s.onSlot 0 fun _ => ⟨.ready, [65], 100, 2, [some (st [3, 5, 7] 8), some (st [] 4)], none, 0⟩
def testLim (n : Nat) (s : State) : State := s.onPlayer fun p => { p with testedLimit := n }
def idle1 : State := testLim 7 (pool2 timed)
def full32 (s : State) : State := { s with strikes := List.replicate 32 (stk 1 0 (timed.now+99999) .hour false) }
def sws (st : SwingState) (t : Option Int) (b : Option Station) : State :=
  hold (sw timed fun d => { d with state := st, stopTime := t }) .swing b
theorem witness_PlaysQueueAndStep :
    (Ready h0 idle1 ∧ idle1.rights[h0.station].ring = true ∧ idle1.slots[0].state = SlotState.ready ∧
      idle1.player.queue = [] ∧ idle1.player.play = none ∧ idle1.strikes = [] ∧ (∀ (b : BellNo),
      b ∈ idle1.slots[0].bellSet → idle1.bells[b].holder = Holder.clock ∧ idle1.swingOf b = SwingState.down ∧
      idle1.bells[b].waiting = []) ∧ idle1.slots[0].written[0]? = some (st [3, 5, 7] 8) ∧ (st [3, 5,
      7] 8).bells.length ≤ 32) ∧
    (Ready h0 idle1 ∧ idle1.rights[h0.station].ring = true ∧ idle1.slots[1].state ≠ SlotState.ready) ∧
    (let s : State := queued (testLim 120 full) (tq 8 5); Ready h0 s ∧ s.rights[h0.station].ring = true ∧
      s.slots[0].state = SlotState.ready ∧ 8 ≤ s.player.queue.length) ∧
    (let s : State := testLim 50 (playing full pA); Ready h0 s ∧ s.rights[h0.station].ring = true ∧
      s.slots[0].state = SlotState.ready ∧ s.player.queue.length < 8 ∧ s.player.play ≠ none) ∧
    (let s : State := testLim 120 (queued full (tq 1 880000)); let x : TuneReq := ⟨1, 0, .schedule 3, 1, 880000,
      false⟩; s.player.queue = [x] ∧ x.source = TuneSource.schedule 3 ∧ x.follow = false ∧
      x.postTime + s.player.testedLimit * 1000 ≤ s.timer) ∧
    (let s : State := testLim 120 (queued full (tq 1 880001)); let x : TuneReq := ⟨1, 0, .schedule 3, 1, 880001,
      false⟩; s.player.queue = [x] ∧ x.source = TuneSource.schedule 3 ∧ x.follow = false ∧
      s.timer < x.postTime + s.player.testedLimit * 1000) ∧
    (let s : State := testLim 50 (playing full pA); s.player.play = some pA ∧ pA.nextAt = some 1000000 ∧
      s.slots[pA.slot].written[pA.stepIdx]? = some (st [3] 8) ∧ 1000000 ≤ s.timer ∧ s.strikes = [] ∧
      (st [3] 8).bells.length ≤ 32) ∧
    (let s : State := playing full pB; s.player.play = some pB ∧ pB.nextAt = some 999990 ∧
      s.slots[pB.slot].written[pB.stepIdx]? = some (st [] 4) ∧ 999990 ≤ s.timer ∧ (st [] 4).bells = []) ∧
    (let s : State := full32 (playing full pA); s.player.play = some pA ∧ pA.nextAt = some 1000000 ∧
      s.slots[pA.slot].written[pA.stepIdx]? = some (st [3] 8) ∧ 1000000 ≤ s.timer ∧ (st [3] 8).bells = [3] ∧
      32 ≤ s.strikes.length) ∧
    (let s : State := playing full pD; s.player.play = some pD ∧ pD.nextAt = some 1000001 ∧
      s.slots[pD.slot].written[pD.stepIdx]? = some (st [3] 8) ∧ s.timer < 1000001) := by
  and_intros <;> decide +kernel

theorem witness_SwingStartsAndLifts :
    (Ready h0 timed ∧ timed.driveOf 3 = none) ∧
    (Ready h0 dn ∧ dn.driveOf 3 = some 2 ∧ dn.drives[2].bell = some 3 ∧ dn.bells[3].present = true ∧
      dn.drives[2].state = SwingState.down ∧ dn.drives[2].claimWaiting = none ∧ dn.drives[2].jog = none ∧
      dn.inSequence 3 = false ∧ dn.leases[h0.station].barred = false ∧ NoHeads dn ∧ Unwatched (Target.bell 3) dn ∧
      (dn.bells[3].holder = Holder.station h0.station ∧ none = some h0.station ∧
      dn.leases[h0.station].lease ≠ Lease.idle ∨ dn.bells[3].holder = Holder.clock ∧ (none : Option Station) = none ∧
      dn.rights[h0.station].ring = true)) ∧
    (let s : State := hold dn (.station 1) none; Ready h0 s ∧ s.driveOf 3 = some 2 ∧ s.bells[3].present = true ∧
      1 ≠ h0.station ∧ s.bells[3].holder = Holder.station 1 ∧ s.drives[2].claimWaiting = none ∧
      s.rights[h0.station].ring = true ∧ s.leases[h0.station].barred = false) ∧
    (let s : State := sws .kick none (some 0); Ready h0 s ∧ s.driveOf 3 = some 2 ∧ s.bells[3].present = true ∧
      s.bells[3].holder = Holder.swing ∧ (s.bells[3].behalf = some h0.station ∨ s.rights[h0.station].ring = true) ∧
      (s.drives[2].state = SwingState.lift ∨ s.drives[2].state = SwingState.queued ∨
      s.drives[2].state = SwingState.kick ∨ s.drives[2].state = SwingState.rise ∨
      s.drives[2].state = SwingState.ringing)) ∧
    (let s : State := sws .stopping (some 6) (some 1); Ready h0 s ∧ s.driveOf 3 = some 2 ∧ s.bells[3].present = true ∧
      s.bells[3].holder = Holder.swing ∧ (s.bells[3].behalf = some h0.station ∨ s.rights[h0.station].ring = true) ∧
      (s.drives[2].state = SwingState.stopping ∨ s.drives[2].state = SwingState.settle ∨
      s.drives[2].state = SwingState.drop)) ∧
    ((timed.running = false ∨ timed.drives[2].state ≠ SwingState.lift)) ∧
    (let s : State := lim (sw timed fun d => { d with state := .lift, deadline := some 5 }); s.running = true ∧
      s.drives[2].state = SwingState.lift ∧ s.gate.limit = true ∧ NoHeads s ∧ (∀ (r : GateReq), r ∈ s.gate.queue →
      r.who ≠ Requester.drive 2)) := by
  and_intros <;> decide +kernel

end Plays

namespace Circuits

def dv (st : SwingState) (f : Drive → Drive) : State := hold (sw timed fun d => { f d with state := st }) .swing none
def pu (o : Direction) (e : Option Nat) (c : Bool) (d : Drive) : Drive :=
  { d with pulse := some ⟨o, e, c⟩, fwd := ⟨c && o = .forward, 5⟩, rev := ⟨c && o = .reverse, 6⟩ }
def jg (o : Direction) (st e : Nat) (c : Bool) (d : Drive) : Drive :=
  { d with jog := some ⟨o, st, e, 1, c⟩, rev := ⟨c && o = .reverse, 5⟩, fwd := ⟨c && o = .forward, 6⟩ }
def nsw (f : Drive → Drive) : State := sw timed f
def kk (r : Nat) (h : Option Nat) (t : Nat) (d : Drive) : Drive :=
  { d with kickRun := r, highestKick := h, deadline := some t, kickLen := 20000, fwd := ⟨true, 5⟩ }
def sl (t : Nat) (d : Drive) : Drive := { d with sensorDeadline := some t, deadline := some t,  rev := ⟨true, 5⟩ }
def stp (t : Option Int) (d : Drive) : Drive :=
  { d with stopTime := t, fwd := ⟨true, 3⟩ , pulse := some ⟨.forward, none, true⟩ }
def sto (t : Option Int) (d : Drive) : Drive :=
  { d with stopTime := t, deadline := some 7, pulse := some ⟨.forward, none, false⟩ }
def gq (s : State) : State :=
  (lim s).onGate fun g => { g with queue := [⟨.circuit 1, 3⟩, ⟨.drive 2, 4⟩, ⟨.drive 3, 4⟩] }
theorem witness_SwingTimers :
    (let s : State := dv .ringing (fun d => fw 999700 (pu .reverse (some 1000050) false d)); s.running = true ∧
      s.drives[2].jog = none ∧
      s.drives[2].pulse = some { dir := Direction.reverse, plannedEnd := some 1000050, closed := false } ∧
      s.drives[2].fwd.closed = false ∧ s.drives[2].fwd.lastOpened + s.drives[2].deadTime ≤ s.timer ∧ (∀ (t : Nat),
      some 1000050 = some t → s.timer + 50 ≤ t)) ∧
    (let s : State := dv .ringing (fun d => fw 999701 (pu .reverse (some 1000050) false d)); s.running = true ∧
      s.drives[2].jog = none ∧
      s.drives[2].pulse = some { dir := Direction.reverse, plannedEnd := some 1000050, closed := false } ∧
      (s.drives[2].fwd.closed = true ∨ s.timer < s.drives[2].fwd.lastOpened + s.drives[2].deadTime)) ∧
    (let s : State := dv .ringing (fun d => fw 999700 (pu .reverse (some 1000049) false d)); s.running = true ∧
      s.drives[2].jog = none ∧
      s.drives[2].pulse = some { dir := Direction.reverse, plannedEnd := some 1000049, closed := false } ∧
      some 1000049 = some 1000049 ∧ s.drives[2].fwd.closed = false ∧
      s.drives[2].fwd.lastOpened + s.drives[2].deadTime ≤ s.timer ∧ 1000049 < s.timer + 50) ∧
    (let s : State := nsw (jg .forward 1000000 1000500 false); let x : Jog := ⟨.forward, 1000000, 1000500, 1, false⟩;
      s.drives[2].jog = some x ∧ s.drives[2].pulse = none ∧ s.running = true ∧ x.dir = Direction.forward ∧
      x.closed = false ∧ x.start ≤ s.timer ∧ s.drives[2].rev.closed = false ∧
      s.drives[2].rev.lastOpened + s.drives[2].deadTime ≤ s.timer) ∧
    (let s : State := nsw (jg .forward 1000000 1000500 false); let x : Jog := ⟨.forward, 1000000, 1000500, 1, false⟩;
      s.drives[2].jog = some x ∧ s.drives[2].pulse = none ∧ s.timer < x.stop) ∧
    (let s : State := nsw (jg .forward 999000 1000000 true); let x : Jog := ⟨.forward, 999000, 1000000, 1, true⟩;
      s.drives[2].jog = some x ∧ s.drives[2].pulse = none ∧ x.stop ≤ s.timer ∧ x.dir = Direction.forward ∧
      s.drives[2].fwd.closed = true) ∧
    (let s : State := dv .ringing (pu .forward (some 1000000) true);
      s.drives[2].pulse = some { dir := Direction.forward, plannedEnd := some 1000000, closed := true } ∧
      1000000 ≤ s.timer ∧ s.drives[2].fwd.closed = decide (Direction.forward = Direction.forward) ∧
      s.drives[2].rev.closed = decide (Direction.forward = Direction.reverse)) ∧
    (let s : State := dv .ringing (pu .reverse (some 1000001) true);
      s.drives[2].pulse = some { dir := Direction.reverse, plannedEnd := some 1000001, closed := true } ∧
      s.timer < 1000001) ∧
    (let s : State := dv .ringing (fun d => rv 999700 (pu .forward (some 1000050) false d)); s.running = true ∧
      s.drives[2].jog = none ∧
      s.drives[2].pulse = some { dir := Direction.forward, plannedEnd := some 1000050, closed := false } ∧
      s.drives[2].rev.closed = false ∧ s.drives[2].rev.lastOpened + s.drives[2].deadTime ≤ s.timer ∧ (∀ (t : Nat),
      some 1000050 = some t → s.timer + 50 ≤ t)) ∧
    (let s : State := dv .ringing (fun d => rv 999701 (pu .forward (some 1000050) false d)); s.running = true ∧
      s.drives[2].jog = none ∧
      s.drives[2].pulse = some { dir := Direction.forward, plannedEnd := some 1000050, closed := false } ∧
      (s.drives[2].rev.closed = true ∨ s.timer < s.drives[2].rev.lastOpened + s.drives[2].deadTime)) ∧
    (let s : State := dv .ringing (fun d => rv 999700 (pu .forward (some 1000049) false d)); s.running = true ∧
      s.drives[2].jog = none ∧
      s.drives[2].pulse = some { dir := Direction.forward, plannedEnd := some 1000049, closed := false } ∧
      some 1000049 = some 1000049 ∧ s.drives[2].rev.closed = false ∧
      s.drives[2].rev.lastOpened + s.drives[2].deadTime ≤ s.timer ∧ 1000049 < s.timer + 50) ∧
    (let s : State := nsw (jg .reverse 1000000 1000500 false); let x : Jog := ⟨.reverse, 1000000, 1000500, 1, false⟩;
      s.drives[2].jog = some x ∧ s.drives[2].pulse = none ∧ s.running = true ∧ x.dir = Direction.reverse ∧
      x.closed = false ∧ x.start ≤ s.timer ∧ s.drives[2].fwd.closed = false ∧
      s.drives[2].fwd.lastOpened + s.drives[2].deadTime ≤ s.timer) ∧
    (let s : State := nsw (jg .reverse 999000 1000000 true); let x : Jog := ⟨.reverse, 999000, 1000000, 1, true⟩;
      s.drives[2].jog = some x ∧ s.drives[2].pulse = none ∧ x.stop ≤ s.timer ∧ x.dir = Direction.reverse ∧
      s.drives[2].rev.closed = true) ∧
    (let s : State := dv .kick (kk 1 (some 10) 1000000); s.running = true ∧ NoHeads s ∧
      s.drives[2].state = SwingState.kick ∧ s.drives[2].deadline = some 1000000 ∧ 1000000 ≤ s.timer ∧
      s.drives[2].kickRun = 1 ∧ s.drives[2].highestKick = some 10 ∧ 10 ≤ 10) ∧
    (let s : State := dv .kick (kk 1 (some 9) 1000000); s.running = true ∧ NoHeads s ∧
      s.drives[2].state = SwingState.kick ∧ s.drives[2].deadline = some 1000000 ∧ 1000000 ≤ s.timer ∧
      (s.drives[2].kickRun ≠ 1 ∨ ∀ (a : Nat), s.drives[2].highestKick = some a → a < 10)) ∧
    (let s : State := dv .rise (sl 1000000); s.running = true ∧ NoHeads s ∧ (s.drives[2].state = SwingState.kick ∨
      s.drives[2].state = SwingState.rise ∨ s.drives[2].state = SwingState.ringing ∨
      s.drives[2].state = SwingState.stopping) ∧ s.drives[2].sensorDeadline = some 1000000 ∧ 1000000 ≤ s.timer) ∧
    (let s : State := dv .settle (sl 1000000); s.running = true ∧ NoHeads s ∧ s.drives[2].state = SwingState.settle ∧
      s.drives[2].deadline = some 1000000 ∧ 1000000 ≤ s.timer) ∧
    (let s : State := dv .kick (kk 2 (some 29) 1000001); s.running = true ∧ NoHeads s ∧
      s.drives[2].deadline = some 1000001 ∧ s.timer < 1000001) ∧
    (let s : State := dv .ringing (sl 1000001); s.running = true ∧ NoHeads s ∧
      s.drives[2].sensorDeadline = some 1000001 ∧ s.timer < 1000001) := by
  and_intros <;> decide +kernel

/-- Drive 3 waits at the gate alone, and SUPPLY LIMIT does not hold it. -/
def alone (s : State) : State := s.onGate fun g => { g with queue := [⟨.drive 2, 4⟩] }
/-- A claim of station `n` for drive 3 waits for bell 4, which is in sequence. -/
def claiming (n : Station) : State :=
  ((sw timed fun d => { d with
    claimWaiting := some (.station n), source := .station n 5, stopTime := some N }).onBell 3 fun b => { b with
      waiting := [⟨.swing, .station n, none, some 5, 77⟩] }).onMarks 3 fun m => { m with tune := true }

/-- Drive 3 is on bell 4, which is present, and no head waits. -/
abbrev OnBell4 (s : State) : Prop :=
  s.drives[2].bell = some 3 ∧ s.driveOf 3 = some 2 ∧ s.bells[3].present = true ∧ NoHeads s
/-- Drive 3 is not at rest, no claim of it waits, and a stop lets the gate grant nothing. -/
abbrev Stoppable (s : State) : Prop :=
  (s.drives[2].state ≠ .down ∨ (s.drives[2].claimWaiting = none ∧ s.drives[2].grantWaiting = true)) ∧ GateHeldFor 2 s

theorem witness_SwingStops :
    (let s : State := dv .rise (stp (some N)); OnBell4 s ∧ Stoppable s ∧
      s.running = true ∧ s.drives[2].stopTime = some N ∧ N ≤ s.now ∧ Ready h0 s ∧ MayStop h0 3 2 s) ∧
    (let s : State := gq (dv .queued (sto (some N))); OnBell4 s ∧ Stoppable s ∧
      s.running = true ∧ s.drives[2].stopTime = some N ∧ N ≤ s.now ∧ Ready h0 s ∧ MayStop h0 3 2 s) ∧
    (let s : State := alone (dv .queued (sto (some N))); OnBell4 s ∧ Stoppable s ∧
      s.gate.limit = false ∧
      s.running = true ∧ s.drives[2].stopTime = some N ∧ N ≤ s.now ∧ Ready h0 s ∧ MayStop h0 3 2 s) ∧
    (let s : State := dv .down fun d => { stp (some N) d with grantWaiting := true }; OnBell4 s ∧ Stoppable s ∧
      s.running = true ∧ s.drives[2].stopTime = some N ∧ N ≤ s.now ∧ Ready h0 s ∧ MayStop h0 3 2 s) ∧
    (let s : State := hold (dv .lift (sto (some N))) .swing (some 1); OnBell4 s ∧ Stoppable s ∧
      s.bells[3].behalf = some 1 ∧ s.rights[h0.station].install = true ∧
      Ready h0 s ∧ MayStop h0 3 2 s) ∧
    (let s : State := hold (dv .settle (sto (some N))) .swing (some 0); OnBell4 s ∧ Stoppable s ∧
      s.running = true ∧ s.drives[2].stopTime = some N ∧ N ≤ s.now ∧ Ready h0 s ∧ MayStop h0 3 2 s) ∧
    (let s : State := claiming 0; OnBell4 s ∧
      s.drives[2].state = .down ∧ s.drives[2].claimWaiting ≠ none ∧
      s.running = true ∧ s.drives[2].stopTime = some N ∧ N ≤ s.now ∧ Ready h0 s ∧ MayStop h0 3 2 s) ∧
    (let s : State := noI (claiming 0); OnBell4 s ∧
      s.drives[2].state = .down ∧ s.drives[2].claimWaiting ≠ none ∧
      s.drives[2].source = .station h0.station 5 ∧
      Ready h0 s ∧ MayStop h0 3 2 s) ∧
    (let s : State := noI (hold (dv .rise (stp (some N))) .swing (some 1)); OnBell4 s ∧ Ready h0 s ∧
      (s.drives[2].state ≠ .down ∨ s.drives[2].claimWaiting ≠ none ∨ s.drives[2].grantWaiting = true) ∧
      ¬MayStop h0 3 2 s ∧ s.rights[h0.station].ring = true) ∧
    (let s : State := { claiming 1 with rights := noR.rights }; OnBell4 s ∧ Ready h0 s ∧
      (s.drives[2].state ≠ .down ∨ s.drives[2].claimWaiting ≠ none ∨ s.drives[2].grantWaiting = true) ∧
      ¬MayStop h0 3 2 s ∧ s.rights[h0.station].ring = false) ∧
    (let s : State := dv .down id; OnBell4 s ∧
      Ready h0 s ∧ s.drives[2].state = .down ∧ s.drives[2].claimWaiting = none ∧
      s.drives[2].grantWaiting = false) ∧
    (let s : State := dv .kick (stp (some (N + 1))); OnBell4 s ∧
      s.drives[2].stopTime = some (N + 1) ∧ s.now < N + 1) ∧
    (let s : State := dv .ringing fun d => { stp none d with cause := .trip }; OnBell4 s ∧
      s.drives[2].stopTime = none) := by
  and_intros <;> decide +kernel

end Circuits

namespace Wire

def hourS (f : State → State) : State :=
  f { unrec timed with plan := { timed.plan with hourBell := 3, hourStrike := true, slot00 := none } }
def minute : State := { timed with tb := { timed.tb with secs := 45300, ms := 0 } }
def at00 (f : State → State) : State := f { hourS id with tb := { timed.tb with secs := 46800, ms := 0 } }
def spring : State :=
  { timed with tb := { timed.tb with date := ⟨2024,3,31⟩, secs := 3600, ms := 0, summer := .winter } }
def springOff : State := { spring with power := ⟨false, false, 0#32⟩ }
def ent2 (m : Nat) (o : Option Date) (a : Machine.Action) (s : State) : State :=
  { s.setEntry 5 (some ⟨true, .station 0, .time m, 127#7, none, o, a, none⟩) with
    tollQueue := [⟨0, 1, 2, .entry 3, 999995⟩] }

/-- What a minute event makes of the time base before anything else acts. -/
def seen (s : State) : State := { s with tb := s.tb.redecide.see, player := { s.player with failing := none } }

theorem witness_WatchesAndArrivals :
    (let s : TargetBody := TargetBody.entry 95; let x : Target := Target.entry 95; Ready h0 timed ∧
      readTarget s = some x ∧ readMode ModeBody.fire = some WatchMode.fire) ∧
    (Ready h0 timed ∧ 153#8 ≠ 96#8) ∧
    (Ready h0 timed ∧ MayInstall h0 timed) ∧
    (let s : State := lk (fun l => { l with enabled := false }); (s.running = false ∨
      s.links[h0.station].enabled = false)) ∧
    (let s : State := lk (fun l => { busyTx l with reply := .held rf }); s.running = true ∧
      s.links[h0.station].enabled = true ∧ s.links[h0.station].waiting = none ∧
      s.links[h0.station].reply ≠ ReplyPlace.empty) ∧
    (let s : State := lk (fun l => { busyTx l with reply := .held rf, waiting := some ⟨2, 3, none⟩ });
      s.running = true ∧ s.links[h0.station].enabled = true ∧ s.links[h0.station].waiting ≠ none ∧
      s.links[h0.station].notices = [] ∧ s.links[h0.station].tx ≠ none) := by
  and_intros <;> decide +kernel

theorem witness_TimeSetSetsTheClock :
    (Ready h0 full ∧ full.rights[h0.station].time = true ∧ realDate { year := 2024, month := 2, day := 29 } = true ∧
      86399 < 86400) ∧
    (Ready h0 full ∧ full.rights[h0.station].time = true ∧ realDate { year := 2024, month := 2, day := 29 } = true ∧
      86400 ≤ 86400) ∧
    (Ready h0 full ∧ full.rights[h0.station].time = true ∧
      realDate { year := 2023, month := 2, day := 29 } = false) := by
  and_intros <;> decide +kernel

theorem witness_MinuteAndSummerEvents :
    (timed.minuteDue = false) ∧
    (let s : State := { (dd minute fun d => { d with inFlight := some (imp .pairPos 999700 true) }) with
        tb := { minute.tb with validity := .unset } };
      s.minuteDue = true ∧ s.dials[1].present = true ∧ s.dials[1].inFlight ≠ none ∧
        ∀ d : DialNo, s.dials[d].inFlight = none ∨ s.dials[d].heldClosing = false) ∧
    (minute.minuteDue = true ∧ minute.tb.validity ≠ Validity.unset ∧
      PlanSteady ({ minute with tb := minute.tb.redecide.see } : State) ∧ minute.player.queue = [] ∧
      Unscheduled minute ∧ (seen minute).tb.loc.minute % 15 ≠ 0) ∧
    (let s : State := at00 id; s.minuteDue = true ∧ s.tb.validity ≠ Validity.unset ∧
      PlanSteady ({ s with tb := s.tb.redecide.see } : State) ∧ s.player.queue = [] ∧ Unscheduled s ∧
      (seen s).tb.loc.minute % 60 = 0 ∧ s.hour.state = HourState.idle ∧ s.plan.slot00 = none ∧
      s.plan.hourStrike = true ∧ s.plan.hourBell = 3 ∧ (seen s).silenced Quiet.hours = false ∧
      ClockBlowWaits 3 (seen s)) ∧
    (let s : State := at00 (fun s => { s with plan := { s.plan with hourStrike := false }}); s.minuteDue = true ∧
      s.tb.validity ≠ Validity.unset ∧ PlanSteady ({ s with tb := s.tb.redecide.see } : State) ∧ s.player.queue = [] ∧
      Unscheduled s ∧ (seen s).tb.loc.minute % 60 = 0 ∧ s.hour.state = HourState.idle ∧ s.plan.slot00 = none ∧
      s.plan.hourStrike = false) ∧
    (let s : State := ent2 815 none (.toll 2 4 5) minute; let x : Entry := (⟨true, .station 0, .time 815, 127#7, none,
      none, .toll 2 4 5, none⟩ : Entry); s.minuteDue = true ∧ s.tb.validity ≠ Validity.unset ∧
      PlanSteady ({ s with tb := s.tb.redecide.see } : State) ∧ s.player.queue = [] ∧
      (seen s).tb.loc.minute % 15 ≠ 0 ∧ s.entries[5] = some x ∧ (∀ (i : EntryNo), i ≠ 5 → s.entries[i] = none) ∧
      (seen s).fires x (seen s).tb.loc.date (seen s).tb.loc.minute = true ∧ x.oneShot = none ∧
      x.action = Action.toll 2 4 5 ∧ s.tollQueue ≠ [] ∧ s.tollQueue.length < 4 ∧ Unwatched (Target.entry 5) s) ∧
    ((timed.tb.atMinute = false ∨ timed.tb.decision = timed.tb.summer)) ∧
    (spring.tb.atMinute = true ∧ spring.tb.decision ≠ spring.tb.summer ∧ spring.running = true) ∧
    (springOff.tb.atMinute = true ∧ springOff.tb.decision ≠ springOff.tb.summer ∧ springOff.running = false) := by
  and_intros <;> decide +kernel

end Wire

namespace Strikes

def free : State := timed.onHammer 3 fun h => { h with lastPulse := 0 }
def x0 := stk 4 3 N (.hand 0 5) false
def x1 := stk 4 3 (N-51) (.hand 0 5) true
def xt := stk 4 3 N (.test 0 5) false
def xu := stk 4 3 N (.tune 1) false
def xh := stk 4 3 N .hour false
def xe := stk 4 3 (N-60) (.tollEntry 2 3) false
def xs := stk 4 3 N (.tollStation 2 0) false
def pl (s : State) (x : Strike) : State := { s with strikes := [x] }
def bad (s : State) : State := s.onHammer 3 fun h => { h with ok := false }
def inPulse (h : Hammer) : Hammer := { h with pulse := some ⟨x0, 999990, 60⟩ }
def full3 (s : State) : State :=
  ((s.onHammer 5 inPulse).onHammer 6 inPulse).onHammer 7 inPulse
def two2 (s : State) : State :=
  (s.onHammer 5 inPulse).onHammer 6 inPulse
def hr (c d : Nat) (s : State) : State :=
  s.onHour fun h => { h with state := .striking, bell := some 3, count := c, done := d }
def p1 : Play := playAt 0 0 0 2 (some 1000000) 990000 (.schedule 3)
def pp (s : State) : State := s.onPlayer fun p => { p with play := some p1 }
def tE (c d : Nat) : TollRun := ⟨2, ⟨3, c, 2, .entry 3, 5⟩, d, 1, none, none, none⟩
def tS (c d : Nat) : TollRun := ⟨2, ⟨3, c, 2, .station 0 6, 5⟩, d, 1, none, none, none⟩
def wt (r : TollRun) (s : State) : State := { s with toll := some r }
def y1 := stk 5 4 N (.hand 0 6) true
def pair (x y : Strike) : State :=
  let s := (held.onBell y.bell fun b =>
    { b with holder := .station 0 }).onHammer y.bell fun h => { h with lastPulse := 0 }
  two2 { s with strikes := [x, y] }

theorem witness_DueStrikeFiresOrIsWithheld :
    (let s : State := pl held x0; s.running = true ∧ s.strikes = [x0] ∧ x0.due ≤ s.now ∧
      Unwatched (Target.bell x0.bell) s ∧ (Instr.strikeDue = Instr.strikeDue ∨
      Instr.strikeDue = Instr.hammerRecoveryEnd x0.bell) ∧ s.recovered x0.bell = true ∧ s.coils < 3 ∧ Fits x0 s ∧
      x0.source = StrikeSource.hand 0 5) ∧
    (let s : State := full3 (pl held x1); s.running = true ∧ s.strikes = [x1] ∧ x1.due ≤ s.now ∧
      Unwatched (Target.bell x1.bell) s ∧ (Instr.strikeDue = Instr.strikeDue ∨
      Instr.strikeDue = Instr.hammerRecoveryEnd x1.bell) ∧ s.recovered x1.bell = true ∧ 3 ≤ s.coils ∧
      x1.fitted = true) ∧
    (let s : State := noSens (pl held xt); s.running = true ∧ s.strikes = [xt] ∧ xt.due ≤ s.now ∧
      Unwatched (Target.bell xt.bell) s ∧ (Instr.strikeDue = Instr.strikeDue ∨
      Instr.strikeDue = Instr.hammerRecoveryEnd xt.bell) ∧ s.recovered xt.bell = true ∧ s.coils < 3 ∧ Fits xt s ∧
      xt.source = StrikeSource.test 0 5) ∧
    (let s : State := bad (pl held x0); s.running = true ∧ s.strikes = [x0] ∧ x0.due ≤ s.now ∧
      Unwatched (Target.bell x0.bell) s ∧ (Instr.strikeDue = Instr.strikeDue ∨
      Instr.strikeDue = Instr.hammerRecoveryEnd x0.bell) ∧ s.recovered x0.bell = true ∧ s.coils < 3 ∧ (¬Fits x0 s) ∧
      x0.source = StrikeSource.hand 0 5) ∧
    (let s : State := bad (pl held xt); s.running = true ∧ s.strikes = [xt] ∧ xt.due ≤ s.now ∧
      Unwatched (Target.bell xt.bell) s ∧ (Instr.strikeDue = Instr.strikeDue ∨
      Instr.strikeDue = Instr.hammerRecoveryEnd xt.bell) ∧ s.recovered xt.bell = true ∧ s.coils < 3 ∧ (¬Fits xt s) ∧
      xt.source = StrikeSource.test 0 5) ∧
    (let s : State := pp (pl free xu); s.running = true ∧ s.strikes = [xu] ∧ xu.due ≤ s.now ∧
      Unwatched (Target.bell xu.bell) s ∧ (Instr.strikeDue = Instr.strikeDue ∨
      Instr.strikeDue = Instr.hammerRecoveryEnd xu.bell) ∧ s.recovered xu.bell = true ∧ s.coils < 3 ∧ Fits xu s ∧
      xu.source = StrikeSource.tune p1.number ∧ s.player.play = some p1) ∧
    (let s : State := pp (bad (pl free xu)); s.running = true ∧ s.strikes = [xu] ∧ xu.due ≤ s.now ∧
      Unwatched (Target.bell xu.bell) s ∧ (Instr.strikeDue = Instr.strikeDue ∨
      Instr.strikeDue = Instr.hammerRecoveryEnd xu.bell) ∧ s.recovered xu.bell = true ∧ s.coils < 3 ∧ (¬Fits xu s) ∧
      xu.source = StrikeSource.tune p1.number ∧ s.player.play = some p1) ∧
    (let s : State := hr 3 1 (pl free xh); s.running = true ∧ s.strikes = [xh] ∧ xh.due ≤ s.now ∧
      Unwatched (Target.bell xh.bell) s ∧ (Instr.strikeDue = Instr.strikeDue ∨
      Instr.strikeDue = Instr.hammerRecoveryEnd xh.bell) ∧ s.recovered xh.bell = true ∧ s.coils < 3 ∧ Fits xh s ∧
      xh.source = StrikeSource.hour ∧ s.hour.state = HourState.striking ∧ s.hour.clearAt = none ∧
      s.hour.bell = some xh.bell ∧ s.hour.done + 1 < s.hour.count ∧ 1 ≤ s.plan.interval) ∧
    (let s : State := hr 3 2 (pl free xh); s.running = true ∧ s.strikes = [xh] ∧ xh.due ≤ s.now ∧
      Unwatched (Target.bell xh.bell) s ∧ (Instr.strikeDue = Instr.strikeDue ∨
      Instr.strikeDue = Instr.hammerRecoveryEnd xh.bell) ∧ s.recovered xh.bell = true ∧ s.coils < 3 ∧ Fits xh s ∧
      xh.source = StrikeSource.hour ∧ s.hour.state = HourState.striking ∧ s.hour.clearAt = none ∧
      s.hour.bell = some xh.bell ∧ s.hour.count ≤ s.hour.done + 1 ∧ 1 ≤ s.hammers[xh.bell].recovery) ∧
    (let s : State := hr 3 1 (bad (pl free xh)); s.running = true ∧ s.strikes = [xh] ∧ xh.due ≤ s.now ∧
      Unwatched (Target.bell xh.bell) s ∧ (Instr.strikeDue = Instr.strikeDue ∨
      Instr.strikeDue = Instr.hammerRecoveryEnd xh.bell) ∧ s.recovered xh.bell = true ∧ s.coils < 3 ∧ (¬Fits xh s) ∧
      xh.source = StrikeSource.hour ∧ s.hour.state = HourState.striking ∧ s.hour.clearAt = none ∧
      s.hour.bell = some xh.bell ∧ s.hour.done + 1 < s.hour.count ∧ 1 ≤ s.plan.interval) ∧
    (let s : State := wt (tE 3 1) (pl free xe); s.running = true ∧ s.strikes = [xe] ∧ xe.due ≤ s.now ∧
      Unwatched (Target.bell xe.bell) s ∧ (Instr.strikeDue = Instr.strikeDue ∨
      Instr.strikeDue = Instr.hammerRecoveryEnd xe.bell) ∧ s.recovered xe.bell = true ∧ s.coils < 3 ∧ Fits xe s ∧
      xe.source = StrikeSource.tollEntry (tE 3 1).id 3 ∧ (tE 3 1).toll.source = TollSource.entry 3 ∧
      s.toll = some (tE 3 1) ∧ (tE 3 1).clearAt = none ∧ (tE 3 1).toll.bell = xe.bell ∧
      (tE 3 1).done + 1 < (tE 3 1).toll.count ∧ 1 ≤ (tE 3 1).toll.interval) ∧
    (let s : State := wt (tE 3 2) (pl free xe); s.running = true ∧ s.strikes = [xe] ∧ xe.due ≤ s.now ∧
      Unwatched (Target.bell xe.bell) s ∧ (Instr.strikeDue = Instr.strikeDue ∨
      Instr.strikeDue = Instr.hammerRecoveryEnd xe.bell) ∧ s.recovered xe.bell = true ∧ s.coils < 3 ∧ Fits xe s ∧
      xe.source = StrikeSource.tollEntry (tE 3 2).id 3 ∧ (tE 3 2).toll.source = TollSource.entry 3 ∧
      s.toll = some (tE 3 2) ∧ (tE 3 2).clearAt = none ∧ (tE 3 2).toll.bell = xe.bell ∧
      (tE 3 2).toll.count ≤ (tE 3 2).done + 1 ∧ 1 ≤ s.hammers[xe.bell].recovery) ∧
    (let s : State := wt (tE 3 1) (bad (pl free xe)); s.running = true ∧ s.strikes = [xe] ∧ xe.due ≤ s.now ∧
      Unwatched (Target.bell xe.bell) s ∧ (Instr.strikeDue = Instr.strikeDue ∨
      Instr.strikeDue = Instr.hammerRecoveryEnd xe.bell) ∧ s.recovered xe.bell = true ∧ s.coils < 3 ∧ (¬Fits xe s) ∧
      xe.source = StrikeSource.tollEntry (tE 3 1).id 3 ∧ (tE 3 1).toll.source = TollSource.entry 3 ∧
      s.toll = some (tE 3 1) ∧ (tE 3 1).clearAt = none ∧ (tE 3 1).toll.bell = xe.bell ∧
      (tE 3 1).done + 1 < (tE 3 1).toll.count ∧ 1 ≤ (tE 3 1).toll.interval) ∧
    (let s : State := wt (tS 3 1) (pl held xs); s.running = true ∧ s.strikes = [xs] ∧ xs.due ≤ s.now ∧
      Unwatched (Target.bell xs.bell) s ∧ (Instr.strikeDue = Instr.strikeDue ∨
      Instr.strikeDue = Instr.hammerRecoveryEnd xs.bell) ∧ s.recovered xs.bell = true ∧ s.coils < 3 ∧ Fits xs s ∧
      xs.source = StrikeSource.tollStation (tS 3 1).id 0 ∧ (tS 3 1).toll.source = TollSource.station 0 6 ∧
      s.toll = some (tS 3 1) ∧ (tS 3 1).clearAt = none ∧ (tS 3 1).toll.bell = xs.bell ∧
      (tS 3 1).done + 1 < (tS 3 1).toll.count ∧ 1 ≤ (tS 3 1).toll.interval) ∧
    (let s : State := pl held x0; s.choose = none ∧ x0 ∈ s.strikes) ∧
    (let s : State := pl held x1; s.choose = some x1 ∧ x1 ∈ s.strikes ∧ s.ready x1 = true) ∧
    (let s : State := pair x1 y1; s.running = true ∧ s.strikes = [x1, y1] ∧ x1.source = StrikeSource.hand 0 5 ∧
      y1.source = StrikeSource.hand 0 6 ∧ x1.fitted = true ∧ y1.fitted = true ∧ s.ready x1 = true ∧
      s.ready y1 = true ∧ Fits x1 s ∧ Fits y1 s ∧ x1.bell ≠ y1.bell ∧ x1.id ≠ y1.id ∧ s.coils = 2 ∧
      Unwatched (Target.bell x1.bell) s ∧ Unwatched (Target.bell y1.bell) s) := by
  and_intros <;> decide +kernel

end Strikes

namespace Pulses

def stk (id : Nat) (b : BellNo) (due : Int) (src : StrikeSource) (f : Bool) : Strike := ⟨id, b, due, src, f⟩
def x0 := stk 4 3 N (.hand 0 5) false
def pu (st : Nat) (w : Option Window) : State :=
  held.onHammer 3 fun h => { h with pulse := some ⟨x0, st, 60⟩, window := w }
def wi (st : Nat) (m : Nat) (ok : Bool): State :=
  held.onHammer 3 fun h => { h with window := some ⟨st, true, none⟩, misses := m, ok := ok }

/-- A swing grant of drive 3 waits for the pulse on bell 4. -/
def granted (c : SwingCause) (s : State) : State := sw s fun d => { d with grantWaiting := true, cause := c }
/-- The window of a test strike of station 2. -/
def tested (st : Nat) : Window := ⟨st, true, some (1, 6)⟩

theorem witness_PulsesAndWindowsEnd :
    (let s : State := pu 999940 none; let x : Pulse := ⟨x0, 999940, 60⟩; s.hammers[3].pulse = some x ∧
      x.start + x.width ≤ s.timer ∧ s.strikes = [] ∧ s.driveOf 3 = none) ∧
    (let s : State := sw (pu 999850 (some (tested 999850))) id; let x : Pulse := ⟨x0, 999850, 60⟩;
      s.hammers[3].pulse = some x ∧ x.start + x.width ≤ s.timer ∧ s.strikes = [] ∧ s.driveOf 3 = some 2 ∧
      s.drives[2].grantWaiting = false) ∧
    (let s : State := granted .none (pu 999940 none); let x : Pulse := ⟨x0, 999940, 60⟩; s.hammers[3].pulse = some x ∧
      x.start + x.width ≤ s.timer ∧ s.strikes = [] ∧ s.driveOf 3 = some 2 ∧ s.drives[2].grantWaiting = true ∧
      s.drives[2].cause = .none ∧ NoHeads s) ∧
    (let s : State := granted .lapse (pu 999940 none); let x : Pulse := ⟨x0, 999940, 60⟩; s.hammers[3].pulse = some x ∧
      x.start + x.width ≤ s.timer ∧ s.strikes = [] ∧ s.driveOf 3 = some 2 ∧ s.drives[2].grantWaiting = true ∧
      s.drives[2].cause ≠ .none ∧ NoHeads s) ∧
    (let s : State := pu 999941 none; let x : Pulse := ⟨x0, 999941, 60⟩; s.hammers[3].pulse = some x ∧
      s.timer < x.start + x.width) ∧
    (held.hammers[3].pulse = none) ∧
    (let s : State := pu 999940 none; s.hammers[3].window = none) ∧
    (let s : State := pu 999851 (some (tested 999851)); let x : Window := tested 999851;
      s.hammers[3].window = some x ∧ s.timer < x.start + 150) ∧
    (let s : State := pu 999850 (some ⟨999850, true, none⟩); let x : Window := ⟨999850, true, none⟩;
      s.hammers[3].window = some x ∧ x.start + 150 ≤ s.timer) ∧
    (let s : State := pu 999940 (some ⟨999940, true, none⟩); let x : Window := ⟨999940, true, none⟩;
      s.hammers[3].window = some x ∧ (s.timer < x.start + 150 ∨ s.hammers[3].pulse ≠ none)) ∧
    (let s : State := wi 999850 2 true; let x : Window := ⟨999850, true, none⟩; s.hammers[3].window = some x ∧
      x.start + 150 ≤ s.timer ∧ s.hammers[3].pulse = none) := by
  and_intros <;> decide +kernel

end Pulses

namespace Rights

def dri : DriveInstall := ⟨none, 300, 20, 110, 8, 90, true⟩
def dri2 : DriveInstall := ⟨some 12, 3000, 20, 110, 8, 90, false⟩
def linkW : State := timed.onLink 0 fun l => { l with tx := some (.reply ⟨7, .done false .none, .setLink 1 false⟩) }
def linkOwn : State := timed.onLink 0 fun l => { l with tx := some (.reply ⟨7, .done false .none, .setLink 0 false⟩) }
/-- A strike that is not due yet waits. -/
def waits : State := { full with strikes := [stk 1 3 (full.now + 9) .hour false] }

theorem witness_InstallNeedsPermissionAndKey :
    (Ready h0n noR ∧ noR.rights[h0n.station].install = false) ∧
    (Ready h0n timed ∧ timed.rights[h0n.station].install = true ∧ h0n.key = false) := by decide +kernel

theorem witness_InstallWrites :
    (Ready h0 waits ∧ MayInstall h0 waits ∧ waits.strikes ≠ [] ∧
      (∀ x ∈ waits.strikes, x.fitted = false ∧ waits.now < x.due) ∧
      ∀ w : Window, waits.hammers[3].window = some w → w.test = none) ∧
    (dri.bell = Option.map (fun b : BellNo => b.val + 1) none ∧
      ∀ (b : BellNo) (x : DriveNo), none = some b → x ≠ 0 → waits.drives[x].bell ≠ some b) ∧
    (dri2.bell = (some (11 : BellNo)).map (fun b => b.val + 1) ∧
      ∃ d : DriveNo, d ≠ 5 ∧ waits.drives[d].bell = some 11) := by
  and_intros <;> decide +kernel

theorem witness_PermissionAndLinkWrites :
    (Ready h0 timed ∧ MayInstall h0 timed) ∧
    (let r : Rights := ⟨true, true, true, true, true⟩
      ∃ k : Station, (put timed.rights 0 r)[k].install = true ∧ timed.storedEnabled k = true) ∧
    (let r : Rights := ⟨true, true, true, true, false⟩
      ∀ k : Station, (put timed.rights 0 r)[k].install = true → timed.storedEnabled k = false) ∧
    (∃ k : Station, timed.rights[k].install = true ∧ (if k = 0 then true else timed.storedEnabled k) = true) ∧
    (∀ k : Station, timed.rights[k].install = true → (if k = 0 then false else timed.storedEnabled k) = false) ∧
    (linkW.links[0].tx = some (.reply ⟨7, .done false .none, .setLink 1 false⟩) ∧
      linkW.links[0].reply = .empty ∧ linkW.links[0].notices = []) ∧
    (linkOwn.links[0].tx = some (.reply ⟨7, .done false .none, .setLink 0 false⟩) ∧
      linkOwn.links[0].reply = .empty ∧ linkOwn.links[0].notices = []) := by
  and_intros <;> decide +kernel

end Rights

namespace Jumps

/-- Due times, a stop time and an expiry that a jump moves. -/
def sunk (s : State) : State :=
  let s := { s with
    strikes := [stk 3 4 (s.now + 500) .hour false, stk 4 5 (s.now + 5) (.hand 1 2) true],
    toll := some ⟨2, ⟨3, 5, 2, .entry 3, 5⟩, 1, 0, some ⟨s.now, 1000100⟩, none, none⟩ }
  let s := s.onDrive 1 fun d => { d with stopTime := some (s.now + 60000) }
  s.onCircuit 2 fun c => { c with force := some ⟨true, 0, .tower (s.now + 600000)⟩ }
/-- The hour strikes on bell 4, which has still to recover. -/
def hourly : State :=
  { unrec timed with plan := { timed.plan with hourBell := 3, hourStrike := true, slot00 := none } }
/-- Half a second into an hour that has been struck. -/
def onHour : State := { hourly with tb := { timed.tb with secs := 46800, ms := 500 } }
/-- The time base after TIME SET to a second of its day. -/
def set_ (s : State) (n : Nat) : TimeBase :=
  ({ s.tb with secs := n, ms := 0, validity := .valid, sinceSet := 0 } : TimeBase).redecide.see
def daily : Entry := ⟨true, .station 0, .time 820, 127#7, none, none, .tune 0 1, none⟩
def passing : State := timed.setEntry 5 (some daily)
/-- Local 14:00:00.000, its minute event still to be taken. -/
def reached (s : State) : State := { s with tb := { timed.tb with secs := 46800, ms := 0 } }
def atTwo : Entry := { daily with trigger := .time 840 }

/-- R4: a TIME SET that carries the current time passes no boundary. -/
theorem test_time_set_to_the_current_second :
    (nextOf (exec (.timeSet h0 onHour.tb.date 46800) onHour)).hour.state = .idle ∧
      (nextOf (exec (.timeSet h0 onHour.tb.date 46800) onHour)).strikes = [] := by decide +kernel

/-- R15: a TIME SET taken before the minute event of 14:00 has not reached it, so a step to 14:02:00 passes the hour and
the entry at 14:00, and the minute event of the old count does not come. -/
theorem test_time_set_before_the_minute_event :
    let t := nextOf (exec (.timeSet h0 hourly.tb.date 46920) (reached hourly))
    let u := nextOf (exec (.timeSet h0 timed.tb.date 46920) ((reached timed).setEntry 5 (some atTwo)))
    (reached hourly).minuteDue = true ∧ t.minuteDue = false ∧ t.hour.state = .striking ∧ t.hour.boundary = 840 ∧
      u.sched.fired = 1 := by
  and_intros <;> decide +kernel

/-- R15: with the minute event of 14:00 taken first, the step to 14:02:00 is made from 14:00, and passes nothing. -/
theorem test_time_set_after_the_minute_event :
    let s : State := { reached hourly with tb := (reached hourly).tb.see }
    let t := nextOf (exec (.timeSet h0 hourly.tb.date 46920) s)
    t.hour.state = .idle ∧ t.strikes = [] := by
  and_intros <;> decide +kernel

/-- Log 63: a DST RULE WRITE taken before the minute event of 14:00, which moves local time to 15:00, passes the entry
at 14:00. -/
theorem test_rule_write_before_the_minute_event :
    (nextOf (exec (.dstRuleWrite h0 { factoryRule with offset := 120 })
      ((reached timed).setEntry 5 (some atTwo)))).sched.passed = 1 := by decide +kernel

theorem witness_TimeSetSetsTheClock_Jumps :
    (let s := sunk base; let t := set_ s 86399
      Ready h0 s ∧ s.tb.validity = .unset ∧ Unscheduled s ∧ PlanSteady { s with tb := t }) ∧
    (let t := set_ hourly 46920; let u : State := { hourly with tb := t }; let late := t.loc.secs % 3600
      Ready h0 hourly ∧ hourly.tb.validity ≠ .unset ∧ Unscheduled hourly ∧ PlanSteady u ∧ ClockBlowWaits 3 u ∧
        hourly.hour.state = .idle ∧ u.silenced .hours = false ∧ late < 900 ∧
        late ≤ hourly.plan.lateLimit * 60 ∧ hourly.localLeft.index < t.loc.index - late) ∧
    (let t := set_ onHour onHour.tb.secs;
      Ready h0 onHour ∧ onHour.tb.ms = 500 ∧ t.loc = onHour.localLeft ∧ t.loc.secs % 3600 = 0 ∧ Unscheduled onHour ∧
        PlanSteady { onHour with tb := t }) ∧
    (∀ n ∈ [45900, 48900], let t := set_ passing n
      let m := ({ passing with tb := t } : State).triggerMinute daily.trigger t.loc.date
      Ready h0 passing ∧ passing.entries[5] = some daily ∧ (∀ i : EntryNo, i ≠ 5 → passing.entries[i] = none) ∧
        ClockInRange passing.tb ∧ t.loc.date = passing.localLeft.date ∧ passing.localLeft.minute < m ∧
        m < t.loc.minute ∧
        daily.applies t.loc.date = true ∧ daily.unfired t.loc.date = true) ∧
    ((set_ passing 45900).loc.minute - passing.localLeft.minute ≤ passing.sched.catchUp ∧
      passing.sched.catchUp < (set_ passing 48900).loc.minute - passing.localLeft.minute) ∧
    (let s := reached hourly; let t := set_ s 46920; let u : State := { s with tb := t }; let late := t.loc.secs % 3600
      Ready h0 s ∧ s.boundaryUnseen = true ∧ s.tb.validity ≠ .unset ∧ Unscheduled s ∧ PlanSteady u ∧
        ClockBlowWaits 3 u ∧ s.hour.state = .idle ∧ u.silenced .hours = false ∧ late < 900 ∧
        late ≤ s.plan.lateLimit * 60 ∧ s.localLeft.index < t.loc.index - late) ∧
    (let s := (reached timed).setEntry 5 (some atTwo); let t := set_ s 46920
      let m := ({ s with tb := t } : State).triggerMinute atTwo.trigger t.loc.date
      Ready h0 s ∧ s.boundaryUnseen = true ∧ ClockInRange s.tb ∧ t.loc.date = s.localLeft.date ∧
        s.localLeft.minute < m ∧ m < t.loc.minute ∧ atTwo.applies t.loc.date = true ∧
        atTwo.unfired t.loc.date = true) := by
  and_intros <;> decide +kernel

end Jumps

namespace Starts

def busy : State :=
  let s := full.onDial 0 fun d => { d with
    inFlight := some ⟨.single .pos, 999700, 400, true⟩, known := true, lastStart := some 999700 }
  let s := s.onBell 0 fun b => { b with holder := .station 1, waiting := [] }
  let s := s.onBell 1 fun b => { b with waiting := [⟨.station 1, .station 1, none, some 3, 5⟩] }
  let s := s.onHammer 0 fun h => { h with
    pulse := some ⟨⟨4, 0, 5, .hand 1 3, true⟩, 999990, 60⟩, window := some ⟨999990, true, none⟩ }
  let s := s.onDrive 0 fun d => { d with state := .ringing, fwd := ⟨true, 0⟩, pulse := some ⟨.forward, none, true⟩ }
  let s := s.onCircuit 0 fun c => { c with state := .on, contactor := true, force := some ⟨true, 0, .untilChange⟩ }
  let s := s.onLease 1 fun l => { l with lease := .running 5 6 }
  let s := s.onLink 1 fun l => { l with
    notices := [.complete 1 (.test .missed)], tx := some (.reply ⟨7, .done false .none, .factoryClear⟩) }
  let s := s.onLink 2 fun l => { l with tx := some (.reply ⟨7, .done false .none, .restart⟩) }
  { s with
    strikes := [⟨9, 2, 99, .hour, false⟩],
    watches := put s.watches 0 (put s.watches[(0 : Fin 3)] 1 (some ⟨.dial 2, .fire⟩)) }
def offS : State := nextOf (exec .mainsLoss busy)
def offR : State := nextOf (exec .resetAsserted busy)
def offB : State := nextOf (exec .resetAsserted offS)
def offRBad : State := { offR with power := ⟨true, true, 1#32⟩ }
def busyBad : State := { busy with power := ⟨true, false, 1#32⟩ }
/-- A start of it is cut by the RESET that comes next. -/
def offCut : State := { offR with pending := [.resetAsserted] }

theorem witness_StopLosesOperations : busy.running = true ∧ offS.running = false := by decide +kernel

theorem witness_ColdStartsTakeFactoryDefaults :
    (Ready h0 busy ∧ MayInstall h0 busy) ∧
    (offS.power.mains = false ∧ offS.power.reset = false) ∧
    (offRBad.power.mains = true ∧ offRBad.power.reset = true ∧ offRBad.power.checkDiff ≠ 0#32) ∧
    (busy.links[1].tx = some (.reply ⟨7, .done false .none, .factoryClear⟩)) ∧
    (busyBad.links[2].tx = some (.reply ⟨7, .done false .none, .restart⟩) ∧ busyBad.power.checkDiff ≠ 0#32) := by
  and_intros <;> decide +kernel

set_option synthInstance.maxSize 4096 in
set_option synthInstance.maxHeartbeats 200000 in
theorem witness_WarmStartKeepsTheStore :
    (offS.power = ⟨false, false, 0#32⟩ ∧ Stopped offS offS) ∧
    (offCut.power = ⟨true, true, 0#32⟩ ∧ offCut.startCut = true ∧ Stopped offCut offCut) ∧
    (busy.running = true ∧ busy.links[2].tx = some (.reply ⟨7, .done false .none, .restart⟩) ∧
      busy.power.checkDiff = 0#32) ∧
    (offR.power.mains = true ∧ offS.power.reset = false ∧ offB.power.mains = false ∧ offB.power.reset = true) :=
  ⟨by decide +kernel, by decide +kernel, by decide +kernel, by decide +kernel⟩

set_option synthInstance.maxSize 4096 in
set_option synthInstance.maxHeartbeats 200000 in
theorem witness_StoppedPartStaysStopped :
    (offS.running = false ∧ Stopped offS offS) ∧ step { offS with pending := [.holdover] } = .next offS :=
  ⟨by decide +kernel, rfl⟩

end Starts

namespace Impulses

def sI (k : ImpulseKind) (st : Nat) (l : Bool) : State :=
  dd timed fun d => { kn (T-1) d with reported := some .inStep, inFlight := some (imp k st l), holdBack := true }
def noon : State := { timed with tb := { timed.tb with secs := 43200 - 3600 } }
def syF : State := (sI (.single .pos) 999600 true).onDial 1 fun d => { d with syncFitted := true }
def impf (k : ImpulseKind) (st : Nat) (l : Bool) (f : Dial → Dial) : State :=
  dd timed fun d => f { kn (T-1) d with reported := some .inStep, inFlight := some (imp k st l), holdBack := true }
def syn (p : Nat) (e : SyncExpect) (a : Nat) (hc : Bool) (d : Dial) : Dial :=
  { d with pos := p, syncFitted := true, expect := e, absent := a, heldClosing := hc, autoCorrect := true }
def ii (k : ImpulseKind) : Impulse := imp k 999600 true
def syx (p : Nat) (f : Dial → Dial) : State :=
  dd timed fun d => f { kn p d with
    syncFitted := true, reported := some .inStep, expect := .unsatisfied, absent := 1,
    autoCorrect := true }
def syn2 (p : Nat) (f : Dial → Dial) : State :=
  dd noon fun d => f { kn p d with
    syncFitted := true, reported := some .inStep, expect := .unsatisfied, absent := 1,
    autoCorrect := true }
def v (s : State) : Int :=
  if 2 * s.dials[1].pos < s.dials[1].n then s.dials[1].pos else (s.dials[1].pos : Int) - s.dials[1].n

theorem witness_ImpulsesEndOrFault :
    (let s : State := impf (.single .pos) 999600 true id; let x : Impulse := ii (.single .pos);
      s.dials[1].present = true ∧ s.dials[1].inFlight = some x ∧ x.start + x.width ≤ s.timer ∧ x.load = true ∧
      (x.kind = ImpulseKind.pairNeg ∨ x.kind = ImpulseKind.single Polarity.neg ∨
      x.kind = ImpulseKind.single Polarity.pos) ∧ s.dials[1].heldClosing = false ∧
      (Dial.counted (if x.kind = ImpulseKind.single Polarity.pos then Polarity.pos else Polarity.neg)
      { s.dials[1] with inFlight := none }).stateAt s.tb = DialState.inStep ∧
        s.dials[1].reported = some DialState.inStep) ∧
    (let s : State := impf (.single .pos) 999600 true (syn 709 .closed 1 true); let x : Impulse := ii (.single .pos);
      s.dials[1].present = true ∧ s.dials[1].inFlight = some x ∧ x.start + x.width ≤ s.timer ∧ x.load = true ∧
      (x.kind = ImpulseKind.pairNeg ∨ x.kind = ImpulseKind.single Polarity.neg ∨
      x.kind = ImpulseKind.single Polarity.pos) ∧ s.dials[1].heldClosing = true) ∧
    (let s : State := impf (.single .pos) 999600 false (syn 719 .unsatisfied 0 true);
      let x : Impulse := imp (.single .pos) 999600 false; s.dials[1].present = true ∧ s.dials[1].inFlight = some x ∧
      x.start + x.width ≤ s.timer ∧ x.load = false ∧ x.kind ≠ ImpulseKind.pairGap ∧ Unwatched (Target.dial 1) s) ∧
    (let s : State := impf .pairPos 999600 true (syn 719 .unsatisfied 0 true); s.dials[1].present = true ∧
      s.dials[1].inFlight = some (ii ImpulseKind.pairPos) ∧
      (ii ImpulseKind.pairPos).start + (ii ImpulseKind.pairPos).width ≤ s.timer ∧
      (ii ImpulseKind.pairPos).load = true ∧ (ii ImpulseKind.pairPos).kind = ImpulseKind.pairPos) ∧
    (let s : State := impf .pairPos 999601 true (syn 5 .closed 0 false); let x : Impulse := imp .pairPos 999601 true;
      s.dials[1].present = true ∧ s.dials[1].inFlight = some x ∧ s.timer < x.start + x.width) ∧
    (let s : State := impf (.single .pos) 999600 true id; let x : Impulse := ii (.single .pos);
      s.dials[1].inFlight = some x ∧ (x.kind ≠ ImpulseKind.pairGap ∨ s.timer < x.start + s.dials[1].fast * 1000)) ∧
    (let s : State := impf (.single .pos) 999600 true id; let x : Impulse := ii (.single .pos);
      s.dials[1].inFlight = some x ∧ x.kind ≠ ImpulseKind.pairGap ∧ s.dials[1].present = true ∧
      Unwatched (Target.dial 1) s) ∧
    (let s : State := impf .pairGap 998000 true id; let x : Impulse := imp .pairGap 998000 true;
      s.dials[1].inFlight = some x ∧ x.kind = ImpulseKind.pairGap ∧ x.start + s.dials[1].fast * 1000 ≤ s.timer) ∧
    (sA.dials[1].inFlight = none) ∧
    (let s : Dial := (impf (.single .pos) 999600 true id).dials[1]; let x : Impulse := ii (.single .pos);
      s.inFlight = some x ∧ x.kind = ImpulseKind.single Polarity.pos ∧ x.width ≤ 2 * (1000000 - x.start) ∧
      x.load = true) ∧
    (let s : Dial := (impf (.single .neg) 999600 false (syn 10 .unsatisfied 1 true)).dials[1];
      let x : Impulse := imp (.single .neg) 999600 false; s.inFlight = some x ∧
      x.kind = ImpulseKind.single Polarity.neg ∧ x.width ≤ 2 * (1000000 - x.start) ∧ x.load = false) ∧
    (let s : Dial := (impf .pairNeg 999600 true (syn 10 .unsatisfied 0 true)).dials[1];
      s.inFlight = some (ii ImpulseKind.pairNeg) ∧ (ii ImpulseKind.pairNeg).kind = ImpulseKind.pairNeg ∧
      (ii ImpulseKind.pairNeg).width ≤ 2 * (1000000 - (ii ImpulseKind.pairNeg).start) ∧
      (ii ImpulseKind.pairNeg).load = true) ∧
    (let s : Dial := (impf .pairNeg 999600 false id).dials[1]; let x : Impulse := imp .pairNeg 999600 false;
      s.inFlight = some x ∧ x.kind = ImpulseKind.pairNeg ∧ x.width ≤ 2 * (1000000 - x.start) ∧ x.load = false) ∧
    (let s : Dial := (impf .pairPos 999600 true id).dials[1]; s.inFlight = some (ii ImpulseKind.pairPos) ∧
      (ii ImpulseKind.pairPos).kind = ImpulseKind.pairPos) ∧
    (let s : Dial := (impf .pairGap 999600 true id).dials[1]; s.inFlight = some (ii ImpulseKind.pairGap) ∧
      (ii ImpulseKind.pairGap).kind = ImpulseKind.pairGap) ∧
    (let s : Dial := (impf (.single .neg) 999900 false id).dials[1];
      let x : Impulse := imp (.single .neg) 999900 false; s.inFlight = some x ∧
      x.kind = ImpulseKind.single Polarity.neg ∧ (¬x.width ≤ 2 * (1000000 - x.start))) ∧
    (let s : Dial := (impf .pairNeg 999600 true (syn 10 .unsatisfied 0 true)).dials[1];
      s.inFlight = some (ii ImpulseKind.pairNeg) ∧ (ii ImpulseKind.pairNeg).kind = ImpulseKind.pairNeg ∧
      (¬(ii ImpulseKind.pairNeg).width ≤ 2 * (999799 - (ii ImpulseKind.pairNeg).start))) := by
  and_intros <;> decide +kernel

theorem witness_SyncClosingIsJudged :
    (let s : State := syn2 0 id; s.dials[1].present = true ∧ (s.dials[1].stateAt s.tb = DialState.inStep ∨
      s.dials[1].stateAt s.tb = DialState.catchingUp ∨ s.dials[1].stateAt s.tb = DialState.holding) ∧
      -10 ≤ v s ∧
      v s ≤ 10 ∧
      (v s = 0 ∨
      s.dials[1].autoCorrect = false)) ∧
    (let s : State := syn2 10 id; s.dials[1].present = true ∧ (s.dials[1].stateAt s.tb = DialState.inStep ∨
      s.dials[1].stateAt s.tb = DialState.catchingUp ∨ s.dials[1].stateAt s.tb = DialState.holding) ∧
      -10 ≤ v s ∧
      v s ≤ 10 ∧
      v s ≠ 0 ∧
      s.dials[1].autoCorrect = true) ∧
    (let s : State := syn2 11 id; s.dials[1].present = true ∧ (s.dials[1].stateAt s.tb = DialState.inStep ∨
      s.dials[1].stateAt s.tb = DialState.catchingUp ∨ s.dials[1].stateAt s.tb = DialState.holding) ∧
      (v s < -10 ∨
      10 < v s)) ∧
    (let s : State := syx 5 (fun d => { d with present := false }); (s.dials[1].present = false ∨
      s.dials[1].stateAt s.tb = DialState.fault ∨ s.dials[1].stateAt s.tb = DialState.stopped ∨
      s.dials[1].known = false)) ∧
    (let s : State := syn2 0 id; s.running = true ∧ s.dials[1].present = true ∧ s.dials[1].syncFitted = true ∧
      s.dials[1].inFlight = none ∧ s.dials[1].known = true ∧ Unwatched (Target.dial 1) s ∧
      s.dials[1].stateAt s.tb = DialState.inStep ∧ s.dials[1].reported = some DialState.inStep ∧ s.dials[1].pos = 0) ∧
    (let s : State := syx T id; s.running = true ∧ s.dials[1].present = true ∧ s.dials[1].syncFitted = true ∧
      s.dials[1].inFlight = none ∧ s.dials[1].known = true ∧ Unwatched (Target.dial 1) s ∧
      s.dials[1].stateAt s.tb = DialState.inStep ∧ s.dials[1].reported = some DialState.inStep ∧ 10 < s.dials[1].pos ∧
      s.dials[1].pos + 10 < s.dials[1].n) ∧
    (syF.running = true ∧ syF.dials[1].syncFitted = true ∧ syF.dials[1].inFlight ≠ none) ∧
    ((sOff.running = false ∨ sOff.dials[1].syncFitted = false)) := by
  and_intros <;> decide +kernel

end Impulses

namespace Claims

def sy (s : State) (p : Nat) : State :=
  dd s fun d => { kn p d with syncFitted := true, reported := some .inStep, expect := .unsatisfied, absent := 1 }
def abs1 : State := dd timed fun d => { d with present := false }
def stp : State := dd timed fun d => { kn 5 d with runEnable := false, reported := some .stopped }
def di (st w f : Nat) (p sy : Bool): DialInstall := ⟨p, st, sy, true, w, f, 90⟩
def bl (s : State) (f : Bell → Bell) : State := s.onBell 3 f
def bA : State := bl timed fun b => { b with present := false }
def bS0 : State :=
  (bl timed fun b => { b with holder := .station 0 }).onLease 0 fun l => { l with lease := .running 999000 1003000 }
def bS1 : State := bl timed fun b => { b with holder := .station 1 }
def bSw : State := bl timed fun b => { b with holder := .swing, behalf := some 0 }
def bSq : State := timed.onMarks 3 fun m => { m with tune := true }
def bSqW0 : State := bl bSq fun b => { b with waiting := [cl 1, cl 0, cl 2] }
def bBar : State := timed.onLease 0 fun l => { l with barred := true }
def bFirst : State :=
  (bl timed fun b => { b with holder := .station 0 }).onLease 0 fun l => { l with lease := .first 1000000 }
def bRunE : State :=
  (bl timed fun b => { b with holder := .station 0 }).onLease 0 fun _ => ⟨.running 1000001 1003000, 2, false⟩
def fly (s : State) : State := s.onDial 1 fun d => { d with inFlight := some (imp (.single .pos) 999700 true) }
def jogged (n : Station) (s : State) : State :=
  s.onDrive 2 fun d => { d with bell := some 3, jog := some ⟨.reverse, 999000, 1000500, n, true⟩, rev := ⟨true, 5⟩ }
def swC : Claim := ⟨.swing, .station 2, some 2, some 8, 99⟩
def bSwW : State := bl timed fun b => { b with holder := .swing, behalf := some 1, waiting := [cl 2] }
def bSwW0 : State := bl timed fun b => { b with holder := .swing, behalf := none, waiting := [cl 2, cl 0] }
def wt (s : State) (l : List Claim) : State := bl s fun b => { b with waiting := l }
def joggedF (n : Station) (s : State) : State :=
  s.onDrive 2 fun d => { d with bell := some 3, jog := some ⟨.forward, 1000100, 1000500, n, false⟩ }

theorem witness_DialRequests :
    (Ready h0 sA ∧ sA.rights[h0.station].time = true ∧ sA.dials[1].present = true ∧ (sA.dials[1].inFlight = none ∨
      sA.dials[1].heldClosing = false) ∧ NoFireWatch (Target.dial 1) sA ∧ 0 < sA.dials[1].n) ∧
    (Ready h0 sA ∧ sA.rights[h0.station].time = true ∧ sA.dials[1].present = true ∧ (sA.dials[1].inFlight = none ∨
      sA.dials[1].heldClosing = false) ∧ NoFireWatch (Target.dial 1) sA ∧ sA.dials[1].n ≤ 720) ∧
    (Ready h0 sA ∧ sA.rights[h0.station].time = true ∧ sA.dials[1].present = true ∧ (sA.dials[1].inFlight = none ∨
      sA.dials[1].heldClosing = false) ∧ NoFireWatch (Target.dial 1) sA ∧ sA.dials[1].runEnable = true ∧
      sA.dials[1].fault = DialFault.none) ∧
    (let s : DialInstall := di 30 1000 1 true true; Ready h0 sA ∧ MayInstall h0 sA ∧ (sA.dials[1].inFlight = none ∨
      sA.dials[1].heldClosing = false) ∧ NoFireWatch (Target.dial 1) sA ∧ s.step = DialStep.s30.secs) ∧
    (let s : DialInstall := di 45 400 2 true true; Ready h0 sA ∧ MayInstall h0 sA ∧ (sA.dials[1].inFlight = none ∨
      sA.dials[1].heldClosing = false) ∧ NoFireWatch (Target.dial 1) sA ∧ s.step ≠ 30 ∧ s.step ≠ 60) ∧
    (Ready h0 abs1 ∧ abs1.rights[h0.station].time = true ∧ abs1.dials[1].present = false) ∧
    (let s : State := cw (.dial 1) (fly stp); Ready h0 s ∧ s.rights[h0.station].time = true ∧
      s.dials[1].present = true ∧ (s.dials[1].inFlight = none ∨ s.dials[1].heldClosing = false) ∧
      NoFireWatch (Target.dial 1) s ∧
      s.dials[1].runEnable = false) ∧
    (let s : State := fly stp; Ready h0 s ∧ s.rights[h0.station].time = true ∧
      s.dials[1].present = true ∧ (s.dials[1].inFlight = none ∨ s.dials[1].heldClosing = false) ∧
      NoFireWatch (Target.dial 1) s ∧
      (s.dials[1].runEnable = false ∨ s.dials[1].fault ≠ DialFault.none)) := by
  and_intros <;> decide +kernel

theorem witness_DialRequests_cut :
    Ready h0 (fly sA) ∧ (fly sA).rights[h0.station].time = true ∧ (fly sA).dials[1].present = true ∧
      (fly sA).dials[1].inFlight ≠ none ∧ (fly sA).dials[1].heldClosing = false ∧ NoFireWatch (.dial 1) (fly sA) ∧
      MayInstall h0 (fly sA) := by
  and_intros <;> decide +kernel

theorem witness_BellClaimByHolder_inSequence :
    Ready h0 bSq ∧ bSq.bells[3].present = true ∧ bSq.leases[h0.station].barred = false ∧ bSq.bells[3].holder = .clock ∧
      bSq.inSequence 3 = true ∧ NoHeads bSq ∧ bSq.bells[3].waiting = [] := by
  and_intros <;> decide +kernel

theorem witness_BellClaimByHolder :
    (Ready h0 timed ∧ timed.rights[h0.station].ring = true ∧ timed.bells[3].present = true ∧
      timed.leases[h0.station].barred = false ∧ timed.bells[3].holder = Holder.clock ∧ timed.inSequence 3 = false ∧
      NoHeads timed ∧ Unwatched (Target.bell 3) timed) ∧
    (Ready h0 bA ∧ bA.rights[h0.station].ring = true ∧ bA.bells[3].present = false) ∧
    (Ready h0 bS0 ∧ bS0.rights[h0.station].ring = true ∧ bS0.bells[3].present = true ∧
      bS0.leases[h0.station].barred = false ∧ bS0.bells[3].holder = Holder.station h0.station) ∧
    (Ready h0 bS1 ∧ bS1.rights[h0.station].ring = true ∧ bS1.bells[3].present = true ∧
      bS1.leases[h0.station].barred = false ∧ 1 ≠ h0.station ∧ bS1.bells[3].holder = Holder.station 1) ∧
    (Ready h0 bSw ∧ bSw.rights[h0.station].ring = true ∧ bSw.bells[3].present = true ∧
      bSw.leases[h0.station].barred = false ∧ bSw.bells[3].holder = Holder.swing ∧
      bSw.bells[3].behalf = some h0.station) ∧
    (Ready h0 bSwW ∧ bSwW.rights[h0.station].ring = true ∧ bSwW.bells[3].present = true ∧
      bSwW.leases[h0.station].barred = false ∧ (bSwW.bells[3].holder = Holder.clock ∧ bSwW.inSequence 3 = true ∨
      bSwW.bells[3].holder = Holder.swing ∧ bSwW.bells[3].behalf ≠ some h0.station) ∧ NoHeads bSwW ∧ (∀ (c : Claim),
      c ∈ bSwW.bells[3].waiting → c.claimant ≠ Claimant.station h0.station)) ∧
    (Ready h0 bSwW0 ∧ bSwW0.rights[h0.station].ring = true ∧ bSwW0.bells[3].present = true ∧
      bSwW0.leases[h0.station].barred = false ∧ (bSwW0.bells[3].holder = Holder.clock ∧ bSwW0.inSequence 3 = true ∨
      bSwW0.bells[3].holder = Holder.swing ∧ bSwW0.bells[3].behalf ≠ some h0.station) ∧
      bSwW0.bells[3].waiting = [cl 2] ++ [cl 0] ∧ (cl 0).claimant = Claimant.station h0.station ∧ (∀ (x : Claim),
      x ∈ [cl 2] → x.claimant ≠ Claimant.station h0.station)) ∧
    (Ready h0 bBar ∧ bBar.rights[h0.station].ring = true ∧ bBar.bells[3].present = true ∧
      bBar.leases[h0.station].barred = true) := by
  and_intros <;> decide +kernel

theorem witness_ReleaseByWhatTheStationHas :
    (Ready h0 timed ∧ timed.bells[3].present = true ∧ NoHeads timed ∧
      timed.bells[3].holder ≠ Holder.station h0.station ∧ timed.bells[3].behalf ≠ some h0.station ∧ (∀ (c : Claim),
      c ∈ timed.bells[3].waiting → c.claimant ≠ Claimant.station h0.station)) ∧
    (Ready h0 bS0 ∧ bS0.bells[3].present = true ∧ NoHeads bS0 ∧ bS0.bells[3].holder = Holder.station h0.station ∧
      bS0.bells[3].behalf = none ∧ Unwatched (Target.bell 3) bS0 ∧ (∀ (c : Claim), c ∈ bS0.bells[3].waiting →
      c.claimant ≠ Claimant.station h0.station) ∧ (bS0.bells[3].waiting = [] ∨ bS0.inSequence 3 = true)) ∧
    (let s : State := wt bS0 [cl 1, cl 2]; Ready h0 s ∧ s.bells[3].present = true ∧ NoHeads s ∧
      s.bells[3].holder = Holder.station h0.station ∧ s.bells[3].behalf = none ∧ Unwatched (Target.bell 3) s ∧
      (∀ (c : Claim), c ∈ s.bells[3].waiting → c.claimant ≠ Claimant.station h0.station) ∧ s.inSequence 3 = false ∧
      Option.map Claim.claimant s.bells[3].waiting.head? = some (Claimant.station 1)) ∧
    (let s : State := jogged 0 (wt bS0 [swC, cl 1]); Ready h0 s ∧ s.bells[3].present = true ∧ NoHeads s ∧
      s.bells[3].holder = Holder.station h0.station ∧ s.bells[3].behalf = none ∧ Unwatched (Target.bell 3) s ∧
      (∀ (c : Claim), c ∈ s.bells[3].waiting → c.claimant ≠ Claimant.station h0.station) ∧ s.inSequence 3 = false ∧
      s.bells[3].waiting = [swC, cl 1] ∧ swC.claimant = Claimant.swing ∧ s.driveOf 3 = some 2 ∧
      s.drives[2].bell = some 3) ∧
    (Ready h0 bSw ∧ bSw.bells[3].present = true ∧ NoHeads bSw ∧ bSw.bells[3].holder = Holder.swing ∧
      bSw.bells[3].behalf = some h0.station ∧ (∀ (c : Claim), c ∈ bSw.bells[3].waiting →
      c.claimant ≠ Claimant.station h0.station)) ∧
    (Ready h0 bSqW0 ∧ bSqW0.bells[3].present = true ∧ NoHeads bSqW0 ∧ cl 0 ∈ bSqW0.bells[3].waiting ∧
      (cl 0).claimant = Claimant.station h0.station) ∧
    (timed.driveOf 3 = none) ∧
    (dn.driveOf 3 = some 2 ∧ dn.drives[2].jog = none) ∧
    (let s : State := jogged 0 (wt bS0 [cl 1, swC]); let x : Jog := (⟨.reverse, 999000, 1000500, 0, true⟩ : Jog);
      s.driveOf 3 = some 2 ∧ s.drives[2].jog = some x ∧ s.bells[3].holder = Holder.station x.station) ∧
    (let s : State := joggedF 1 bS0; let x : Jog := (⟨.forward, 1000100, 1000500, 1, false⟩ : Jog);
      s.driveOf 3 = some 2 ∧ s.drives[2].jog = some x ∧ s.bells[3].holder ≠ Holder.station x.station) := by
  and_intros <;> decide +kernel

/-- Station 1 holds bells 4 (a jog on it, two claims waiting), 1 (SWING and station 3 waiting), 2 (in sequence) and 3
(SWING waiting, a pulse in flight); bell 5 swings on its behalf, bell 6 waits at the gate on it, and its claim waits for
bell 7. -/
def holds : State :=
  let swing : Claim := ⟨.swing, .entry 3, none, none, 99⟩
  let s := wt (jogged 0 (lim bRunE)) [cl 1, cl 2]
  let s := s.onBell 0 fun x => { x with holder := .station 0, waiting := [swing, cl 2] }
  let s := s.onBell 1 fun x => { x with holder := .station 0, waiting := [cl 1] }
  let s := s.onMarks 1 fun m => { m with hour := true }
  let s := (s.onBell 2 fun x => { x with holder := .station 0, waiting := [swing] }).onHammer 2 fun x => { x with
    pulse := some ⟨stk 1 2 N .hour true, 999990, 60⟩ }
  let s := s.onBell 4 fun x => { x with holder := .swing, behalf := some 0 }
  let s := s.onBell 5 fun x => { x with holder := .swing, behalf := some 0 }
  let s := s.onBell 6 fun x => { x with holder := .swing, waiting := [cl 0, cl 1] }
  let s := s.onDrive 0 fun d => { d with bell := some 0, claimWaiting := some (.entry 3) }
  let s := s.onDrive 1 fun d => { d with bell := some 2, claimWaiting := some (.entry 3) }
  let s := s.onDrive 3 fun d => { d with bell := some 4, state := .ringing, fwd := ⟨true, 5⟩ }
  let s := s.onDrive 4 fun d => { d with bell := some 5, state := .queued }
  s.onGate fun g => { g with queue := [⟨.drive 4, 9⟩, ⟨.circuit 2, 10⟩] }

theorem witness_KeepalivesAndLapses :
    (Ready h0 timed ∧ timed.leases[h0.station].lease = Lease.idle) ∧
    (Ready h0 bS0 ∧ bS0.leases[h0.station].lease = .running 999000 1003000 ∧ bS0.timer = 1000000) ∧
    (bS0.leases[0].lease = .running 999000 1003000 ∧ bS0.timer < 1003000) ∧
    (LapsePlain 0 holds ∧ h0.station = 0 ∧ Ready h0 holds ∧ holds.leases[0].lease = .running 1000001 1003000 ∧
      holds.timer < 1000001 ∧ holds.links[0].notices = [] ∧ (takenBackOf 0 holds).length = 7) ∧
    (let s : State := joggedF 0 bFirst; LapsePlain 0 s ∧ s.leases[0].lease = .first 1000000 ∧ 1000000 ≤ s.timer) := by
  and_intros <;> decide +kernel

/-- R56, R57, R64: the bells of `holds` go to SWING, to CLOCK (in sequence), to SWING and to the first that waits. -/
theorem test_lapse_passes_the_bells_on :
    let t := nextOf (exec (.keepalive h0) holds)
    [t.bells[0], t.bells[1], t.bells[2], t.bells[3]].map Bell.holder = [.swing, .clock, .swing, .station 1] ∧
      t.drives[0].state = .lift ∧ t.drives[1].grantWaiting = true ∧ t.drives[3].state = .stopping ∧
      t.drives[4].state = .drop ∧ t.gate.queue = [⟨.circuit 2, 10⟩] ∧ t.bells[6].waiting = [cl 1] := by decide +kernel

theorem witness_StationUnbarClears :
    (Ready h0 bBar ∧ bBar.rights[h0.station].install = true ∧ (0 = 0 ∨ 3 < 0)) ∧
    (let s : State := noI timed; Ready h0 s ∧ s.rights[h0.station].install = false) := by
  and_intros <;> decide +kernel

end Claims

namespace Heads

def hr : State := held.onHammer 3 fun h => { h with lastPulse := 999500 }
def l32h : State := { held with strikes := List.replicate 32 (stk 1 0 (N+99999) .hour false) }
def tqh (n : Nat) : State := { held with tollQueue := List.replicate n ⟨0, 1, 2, .entry 3, 5⟩ }
def tr (s : TollSource) : TollRun := ⟨0, ⟨3, 5, 2, s, 5⟩, 0, 0, none, none, none⟩
def tl (s : TollSource) : State :=
  { held with
    toll := some (tr s), strikes := [stk 1 3 (N+9) (.tollEntry 0 3) true, stk 2 4 (N+9) .hour false],
    marks := put held.marks 3 ⟨false, true, false⟩ }
def wt (s : State) (l : List Claim) : State := s.onBell 3 fun b => { b with waiting := l }
def hx : Strike := ⟨held.nextStrike, 3, N, .hand 0 7, false⟩
def hy : Strike := ⟨held.nextStrike, 3, N, .test 0 7, false⟩
def r0 (ta : Nat) (d : Int) : Retry := ⟨d, ta⟩
def trs (done : Nat) (x : Option Retry) : TollRun := ⟨4, ⟨3, 5, 2, .station 1 8, 5⟩, done, 1, x, none, none⟩
def pE : Play := playAt 0 0 0 1 none 999400 (.schedule 3)
def e9 : Play := { pE with startTimer := 1000000 - 900 }
def e9' : Play := { pE with startTimer := 1000000 - 899 }
def pS : State :=
  { playing full e9 with
    tollQueue := [], strikes := [stk 1 3 5 (.tune 1) true, stk 2 4 5 .hour false],
    marks := put full.marks 3 ⟨true, false, true⟩ }
def pS' : State :=
  { playing full e9' with
    tollQueue := [], strikes := [stk 1 3 (timed.now+5) (.tune 1) true, stk 2 4 (timed.now+5) .hour false],
    marks := put full.marks 3 ⟨false, false, true⟩ }
def e1 : Play := { e9 with source := .station 1 5 }
def src (n : Station) (s : State) (f : Link → Link) : State :=
  (s.onPlayer fun p => { p with play := p.play.map fun q => { q with source := .station n 5 } }).onLink 1 f
def pSt : State := noI (src 1 pS id)
def e2 : Play := { e1 with bellSet := [3, 5] }
def pQ : State :=
  ({ (src 1 pS id) with marks := put (put pS.marks 5 ⟨false, false, true⟩) 3 ⟨false, false, true⟩ }.onPlayer fun p =>
    { p with play := some e2 }).onBell 5 fun b => { b with waiting := [cl 2, cl 1] }
def dr (st : SwingState) (t : Nat) (so : SwingSource) (bh : Option Station) : State :=
  hold (sw timed fun d => { d with
    state := st, source := so, deadline := some t, stopTime := some 5, cause := .ended, pPrev := 3,
    inBand := 4, highestKick := some 7 }) .swing bh

/-- A toll of station 1 on bell 4 that has fired three blows. -/
def rang : TollRun := ⟨0, ⟨3, 5, 2, .station 0 4, 5⟩, 3, 3, none, none, none⟩
/-- That toll, its last blow fired at `t`, with bell 4 passed on to CLOCK and station 1 waiting for it again. -/
def ended (t : Nat) : State :=
  { tl (.entry 3) with toll := some { rang with lastFired := some t } }.onBell 3 fun b => { b with
    holder := .clock, waiting := [cl 0] }

theorem witness_StrikesAndTollsOfAStation :
    (Ready h0 held ∧ held.rights[h0.station].ring = true ∧ held.bells[3].present = true ∧
      held.bells[3].holder = Holder.station h0.station ∧ 1 ≤ 1 ∧ held.strikes = []) ∧
    (Ready h0 held ∧ held.rights[h0.station].ring = true ∧ held.bells[3].present = true ∧
      held.bells[3].holder = Holder.station h0.station ∧ held.strikes = [] ∧ held.recovered 3 = true ∧
      held.coils < 3 ∧ Unwatched (Target.bell 3) held ∧
      hx = ⟨held.nextStrike, 3, held.now, StrikeSource.hand h0.station h0.tag, false⟩ ∧
      hy = ⟨held.nextStrike, 3, held.now, StrikeSource.test h0.station h0.tag, false⟩ ∧
      Fits hx held ∧ held.hammers[3].sensor = true) ∧
    (Ready h0 held ∧ held.rights[h0.station].ring = true ∧ held.bells[3].present = true ∧
      held.bells[3].holder = Holder.station h0.station ∧ held.tollQueue = [] ∧ held.toll = none ∧ held.strikes = [] ∧
      Fits ⟨held.nextStrike, 3, held.now, StrikeSource.tollStation held.nextToll h0.station, true⟩ held ∧
      held.recovered 3 = true ∧ held.coils < 3 ∧ Unwatched (Target.bell 3) held ∧ 2 ≤ 2) ∧
    (let s : State := noSens held; Ready h0 s ∧ s.rights[h0.station].ring = true ∧ s.bells[3].present = true ∧
      s.bells[3].holder = Holder.station h0.station ∧ s.strikes = [] ∧ s.recovered 3 = true ∧ s.coils < 3 ∧
      Unwatched (Target.bell 3) s ∧
      hx = ⟨s.nextStrike, 3, s.now, StrikeSource.hand h0.station h0.tag, false⟩ ∧
      hy = ⟨s.nextStrike, 3, s.now, StrikeSource.test h0.station h0.tag, false⟩ ∧
      Fits hx s ∧ s.hammers[3].sensor = false ∧ s.links[h0.station].notices = []) ∧
    (Ready h0 hr ∧ hr.rights[h0.station].ring = true ∧ hr.bells[3].present = true ∧
      hr.bells[3].holder = Holder.station h0.station ∧ hr.strikes = [] ∧ hr.recovered 3 = false ∧
      hr.hammers[3].fitted = true ∧ hr.hammers[3].ok = true ∧ hr.swingOf 3 = SwingState.down ∧ hr.engaged 3 = true) ∧
    (Ready h0 hr ∧ hr.rights[h0.station].ring = true ∧ hr.bells[3].present = true ∧
      hr.bells[3].holder = Holder.station h0.station ∧ hr.tollQueue = [] ∧ hr.toll = none ∧ hr.strikes = [] ∧
      Fits ⟨hr.nextStrike, 3, hr.now, StrikeSource.tollStation hr.nextToll h0.station, true⟩ hr ∧
      hr.recovered 3 = false) ∧
    (Ready h0 l32h ∧ l32h.rights[h0.station].ring = true ∧ l32h.bells[3].present = true ∧
      l32h.bells[3].holder = Holder.station h0.station ∧ 32 ≤ l32h.strikes.length) ∧
    (let s : State := tqh 1; Ready h0 s ∧ s.rights[h0.station].ring = true ∧ s.bells[3].present = true ∧
      s.bells[3].holder = Holder.station h0.station ∧ 1 ≤ s.tollQueue.length ∧ s.tollQueue.length ≤ 3) ∧
    (let s : State := tqh 4; Ready h0 s ∧ s.rights[h0.station].ring = true ∧ s.bells[3].present = true ∧
      s.bells[3].holder = Holder.station h0.station ∧ 4 ≤ s.tollQueue.length) ∧
    (let s : State := held.onBell 3 (fun b => { b with present := false }); Ready h0 s ∧
      s.rights[h0.station].ring = true ∧ (s.bells[3].present = false ∧ Reason.noSuch = Reason.noSuch ∨
      s.bells[3].present = true ∧ s.bells[3].holder ≠ Holder.station h0.station ∧ Reason.noSuch = Reason.notOwner)) ∧
    (let s : State := tl (.entry 3); let x : TollRun := tr (.entry 3); Ready h0 s ∧ s.rights[h0.station].ring = true ∧
      s.toll = some x ∧ x.clearAt = none ∧ x.toll.source = .entry 3 ∧ x.lastFired = none ∧ s.tollQueue = [] ∧
      MarkHead x.toll.bell s) ∧
    (let s : State := ended 999401; let x : TollRun := { rang with lastFired := some 999401 }; Ready h0 s ∧
      s.rights[h0.station].ring = true ∧ s.toll = some x ∧ x.clearAt = none ∧ x.toll.source = .station 0 4 ∧
      0 = h0.station ∧ s.timer < 999401 + s.hammers[x.toll.bell].recovery) ∧
    (let s : State := ended 999400; let x : TollRun := { rang with lastFired := some 999400 }; Ready h0 s ∧
      s.rights[h0.station].ring = true ∧ s.toll = some x ∧ x.clearAt = none ∧ x.toll.source = .station 0 4 ∧
      0 = h0.station ∧ 999400 + s.hammers[x.toll.bell].recovery ≤ s.timer ∧ s.tollQueue = [] ∧
      s.bells[x.toll.bell].holder = .clock ∧ s.bells[x.toll.bell].waiting ≠ [] ∧ MarkHead x.toll.bell s) ∧
    (let s : State := tl (.station 1 4); let x : TollRun := tr (.station 1 4); Ready h0 s ∧
      s.rights[h0.station].ring = true ∧ s.toll = some x ∧ x.clearAt = none ∧ x.toll.source = .station 1 4 ∧
      s.rights[h0.station].install = true ∧ x.lastFired = none ∧ s.tollQueue = [] ∧ MarkHead x.toll.bell s) ∧
    (let x : TollRun := { tr (.entry 3) with clearAt := some 1000001 };
      let s : State := { tl (.entry 3) with toll := some x }; Ready h0 s ∧ s.rights[h0.station].ring = true ∧
      s.toll = some x ∧ x.clearAt ≠ none) ∧
    (let s : State := noI (tl (.station 1 4)); let x : TollRun := tr (.station 1 4); Ready h0 s ∧
      s.rights[h0.station].ring = true ∧ s.toll = some x ∧ x.clearAt = none ∧ x.toll.source = TollSource.station 1 4 ∧
      1 ≠ h0.station ∧ s.rights[h0.station].install = false) := by
  and_intros <;> decide +kernel

theorem witness_HourAndTollTimers :
    (let s : State := gap false 1000000 5; s.hour.state = HourState.gap ∧ s.hour.gapEnd ≤ s.timer ∧
      s.plan.hourStrike = false) ∧
    (let s : State := gap true 1000000 999999; s.hour.state = HourState.gap ∧ s.hour.gapEnd ≤ s.timer ∧
      s.plan.hourStrike = true ∧ s.hour.deadline < s.timer) ∧
    (let s : State := gap true 1000000 1000000; s.hour.state = HourState.gap ∧ s.hour.gapEnd ≤ s.timer ∧
      s.plan.hourStrike = true ∧ s.timer ≤ s.hour.deadline ∧ s.plan.hourBell = 3 ∧ s.bells[3].present = true ∧
      s.silenced Quiet.hours = false ∧ s.strikes = [] ∧ s.recovered 3 = false ∧ s.hammers[3].fitted = true ∧
      s.hammers[3].ok = true ∧ s.swingOf 3 = SwingState.down ∧ s.engaged 3 = true ∧ s.bells[3].holder = Holder.clock) ∧
    (let s : State := (gap true 1000000 1000000).onBell 3 (fun b => { b with present := false });
      s.hour.state = HourState.gap ∧ s.hour.gapEnd ≤ s.timer ∧ s.plan.hourStrike = true ∧ s.timer ≤ s.hour.deadline ∧
      s.bells[s.plan.hourBell].present = false) ∧
    (let s : State := quietAll (gap true 1000000 1000000); s.hour.state = HourState.gap ∧ s.hour.gapEnd ≤ s.timer ∧
      s.plan.hourStrike = true ∧ s.timer ≤ s.hour.deadline ∧ s.bells[s.plan.hourBell].present = true ∧
      s.silenced Quiet.hours = true) ∧
    (let s : State := gap true 1000001 1000001; s.hour.state = HourState.gap ∧ s.timer < s.hour.gapEnd) ∧
    (let s : State := retry 1000001 N 999; s.hour.retry = some (r0 1000001 N) ∧ s.hour.bell = some 3 ∧
      s.timer < (r0 1000001 N).tryAt) ∧
    (let s : State := retry 1000001 N 999; s.hour.retry = some (r0 1000001 N) ∧ s.hour.bell = some 3 ∧
      s.hour.deadline ≤ s.timer ∧ s.hour.lastFired = none ∧ MarkHead 3 s) ∧
    (let s : State := retry 1000000 N 1000001; s.hour.retry = some (r0 1000000 N) ∧ s.hour.bell = some 3 ∧
      (r0 1000000 N).tryAt ≤ s.timer ∧ s.strikes = [] ∧ (r0 1000000 N).due ≤ s.now ∧ s.recovered 3 = false ∧
      s.bells[3].present = true ∧ s.hammers[3].fitted = true ∧ s.hammers[3].ok = true ∧
      s.swingOf 3 = SwingState.down ∧ s.engaged 3 = true ∧ s.bells[3].holder = Holder.clock) ∧
    (let s : State := retry 1000000 N 1000001; s.hour.retry = some (r0 1000000 N) ∧ s.hour.bell = some 3 ∧
      s.timer < s.hour.deadline) ∧
    (let s : State := l32 (retry 1000000 N 1000000); s.hour.retry = some (r0 1000000 N) ∧ s.hour.bell = some 3 ∧
      (r0 1000000 N).tryAt ≤ s.timer ∧ 32 ≤ s.strikes.length) ∧
    (let s : State := clr 1000000; s.hour.clearAt = some 1000000 ∧ s.hour.bell = some 3 ∧ 1000000 ≤ s.timer ∧
      MarkHead 3 s) ∧
    (let s : State := clr 1000001; s.hour.clearAt = some 1000001 ∧ s.hour.bell = some 3 ∧ s.timer < 1000001) ∧
    (let s : State := tollQ 880000; let x : Toll := ⟨3, 5, 2, .entry 3, 880000⟩; s.tollQueue = [x] ∧
      x.source = TollSource.entry 3 ∧ x.postTime + 120000 ≤ s.timer) ∧
    (let s : State := tollQ 880001; let x : Toll := ⟨3, 5, 2, .entry 3, 880001⟩; s.tollQueue = [x] ∧
      x.source = TollSource.entry 3 ∧ s.timer < x.postTime + 120000) ∧
    (let s : State := tollS (trn 1 (some (r0 1000001 N)) none none);
      let x : TollRun := trn 1 (some (r0 1000001 N)) none none; s.toll = some x ∧ x.retry = some (r0 1000001 N) ∧
      s.timer < (r0 1000001 N).tryAt) ∧
    (let s : State := l32 (tollS (trn 1 (some (r0 1000000 (N-1999))) none none));
      let x : TollRun := trn 1 (some (r0 1000000 (N-1999))) none none; let y : Retry := r0 1000000 (N-1999);
      s.toll = some x ∧ x.retry = some y ∧ y.tryAt ≤ s.timer ∧ s.now < y.due + ↑x.toll.interval * 1000 ∧
      32 ≤ s.strikes.length ∧ (∀ (n : Station) (tag : Byte), x.toll.source = TollSource.station n tag → x.done = 0 ∨
      s.bells[x.toll.bell].holder = Holder.station n)) ∧
    (let s : State := tollS (trn 4 (some (r0 1000000 (N-2000))) none none);
      let x : TollRun := trn 4 (some (r0 1000000 (N-2000))) none none; let y : Retry := r0 1000000 (N-2000);
      s.toll = some x ∧ x.retry = some y ∧ y.tryAt ≤ s.timer ∧ y.due + ↑x.toll.interval * 1000 ≤ s.now ∧
      x.toll.source = TollSource.entry 3 ∧ x.toll.count ≤ x.done + 1 ∧ x.lastFired = none ∧ s.tollQueue = [] ∧
      MarkHead x.toll.bell s) ∧
    (let s : State := tollS (trs 1 (some (r0 1000000 (N-1999))));
      let x : TollRun := trs 1 (some (r0 1000000 (N-1999))); let y : Retry := r0 1000000 (N-1999); s.toll = some x ∧
      x.retry = some y ∧ y.tryAt ≤ s.timer ∧ s.now < y.due + ↑x.toll.interval * 1000 ∧
      x.toll.source = TollSource.station 1 8 ∧ 1 ≤ x.done ∧ s.bells[x.toll.bell].holder ≠ Holder.station 1 ∧
      x.lastFired = none ∧ s.tollQueue = [] ∧ MarkHead x.toll.bell s) ∧
    (let s : State := tollS (trn 5 none (some 1000000) (some 5));
      let x : TollRun := trn 5 none (some 1000000) (some 5); s.toll = some x ∧ x.clearAt = some 1000000 ∧
      s.tollQueue = [] ∧ MarkHead x.toll.bell s ∧ 1000000 ≤ s.timer) ∧
    (let s : State := tollS (trn 5 none (some 1000001) (some 5));
      let x : TollRun := trn 5 none (some 1000001) (some 5); s.toll = some x ∧ x.clearAt = some 1000001 ∧
      s.tollQueue = [] ∧ MarkHead x.toll.bell s ∧ s.timer < 1000001) := by
  and_intros <;> decide +kernel

theorem witness_PlayEnds :
    (Ready h0 full ∧ full.rights[h0.station].ring = true ∧ full.player.play = none) ∧
    (pS.player.play = some e9 ∧ (∀ (q : Quarter), e9.source ≠ TuneSource.quarter q) ∧ e9.follow = false ∧
      pS.player.queue = [] ∧ (∀ (b : BellNo), b ∈ e9.bellSet → pS.bells[b].waiting = [] ∨ pS.marks[b].tune = true ∧
      MarkHead b pS) ∧ e9.startTimer + pS.slots[e9.slot].playTime e9.repeats ≤ pS.timer) ∧
    (pS.player.play = some e9 ∧ (∀ (q : Quarter), e9.source ≠ TuneSource.quarter q) ∧ e9.follow = false ∧
      pS.player.queue = [] ∧ (∀ (b : BellNo), b ∈ e9.bellSet → pS.bells[b].waiting = [] ∨ pS.marks[b].tune = true ∧
      MarkHead b pS) ∧ Ready h0 pS ∧ pS.rights[h0.station].ring = true ∧ (∀ (b : BellNo), b ∈ e9.bellSet →
      Option.map Claim.claimant pS.bells[b].waiting.head? ≠ some (Claimant.station h0.station)) ∧ ((∃ tag,
      e9.source = TuneSource.station h0.station tag) ∨ ∃ k, e9.source = TuneSource.schedule k)) ∧
    (pQ.player.play = some e2 ∧ (∀ (q : Quarter), e2.source ≠ TuneSource.quarter q) ∧ e2.follow = false ∧
      pQ.player.queue = [] ∧ (∀ (b : BellNo), b ∈ e2.bellSet → pQ.bells[b].waiting = [] ∨ pQ.marks[b].tune = true ∧
      MarkHead b pQ) ∧ Ready h0 pQ ∧ pQ.rights[h0.station].ring = true ∧ (∀ (b : BellNo), b ∈ e2.bellSet →
      Option.map Claim.claimant pQ.bells[b].waiting.head? ≠ some (Claimant.station h0.station)) ∧
      e2.source = TuneSource.station 1 5 ∧ 1 ≠ h0.station ∧ pQ.rights[h0.station].install = true) ∧
    (pS'.player.play = some e9' ∧ (∀ (q : Quarter), e9'.source ≠ TuneSource.quarter q) ∧ e9'.follow = false ∧
      pS'.player.queue = [] ∧ (∀ (b : BellNo), b ∈ e9'.bellSet → pS'.bells[b].waiting = [] ∨
      pS'.marks[b].tune = true ∧ MarkHead b pS') ∧
      pS'.timer < e9'.startTimer + pS'.slots[e9'.slot].playTime e9'.repeats) ∧
    (Ready h0 pSt ∧ pSt.rights[h0.station].ring = true ∧ pSt.player.play = some e1 ∧
      e1.source = TuneSource.station 1 5 ∧ 1 ≠ h0.station ∧ pSt.rights[h0.station].install = false) := by
  and_intros <;> first | decide +kernel | (intro q; cases q <;> decide +kernel)

theorem witness_ReachingDownPassesTheBellOn :
    (let s : State := dr .drop 1000000 (.schedule 3) none; s.running = true ∧ s.drives[2].bell = some 3 ∧
      s.driveOf 3 = some 2 ∧ s.drives[2].jog = none ∧ s.bells[3].holder = Holder.swing ∧ (s.bells[3].behalf ≠ none ∨
      s.inSequence 3 = true ∨ StationHead 3 s) ∧ NoHeads s ∧ Unwatched (Target.bell 3) s ∧
      s.drives[2].state = SwingState.drop ∧ s.drives[2].deadline = some 1000000 ∧ 1000000 ≤ s.timer) ∧
    (let s : State := wt (dr .lift 1000000 (.station 2 6) none) [cl 2]; s.running = true ∧ s.drives[2].bell = some 3 ∧
      s.driveOf 3 = some 2 ∧ s.drives[2].jog = none ∧ s.bells[3].holder = Holder.swing ∧ (s.bells[3].behalf ≠ none ∨
      s.inSequence 3 = true ∨ StationHead 3 s) ∧ NoHeads s ∧ Unwatched (Target.bell 3) s ∧
      s.drives[2].state = SwingState.lift ∧ s.drives[2].deadline = some 1000000 ∧ 1000000 ≤ s.timer) ∧
    (let s : State := dr .drop 1000001 (.station 1 6) (some 0); s.running = true ∧ s.drives[2].bell = some 3 ∧
      s.driveOf 3 = some 2 ∧ s.drives[2].jog = none ∧ s.bells[3].holder = Holder.swing ∧ (s.bells[3].behalf ≠ none ∨
      s.inSequence 3 = true ∨ StationHead 3 s) ∧ NoHeads s ∧ Unwatched (Target.bell 3) s ∧
      s.drives[2].deadline = some 1000001 ∧ s.timer < 1000001) := by
  and_intros <;> decide +kernel

end Heads

namespace Motion

def dv (st : SwingState) (f : Drive → Drive) : State := hold (sw timed fun d => { f d with state := st }) .swing none
def pu (o : Direction) (e : Option Nat) (c : Bool) (d : Drive) : Drive :=
  { d with pulse := some ⟨o, e, c⟩, fwd := ⟨c && o = .forward, 5⟩, rev := ⟨c && o = .reverse, 6⟩ }
def jg (o : Direction) (st e : Nat) (c : Bool) (d : Drive) : Drive :=
  { d with jog := some ⟨o, st, e, 1, c⟩, rev := ⟨c && o = .reverse, 5⟩ }
def jd (f : Drive → Drive) : State := hold (sw timed f) (.station 0) none
def lifting (st : SwingState) (o : Option Station) : State := hold (dv st id) .swing o
def dark (x : Circuit) : Circuit := { x with force := some ⟨false, 1, .untilChange⟩ }
def fpb2 : FloodPlanBody := ⟨true, 4, 127, none, .time 5, .time 1439⟩
def ci (p : Bool) (r : Nat) (f : Bool) : Sys2Proof.CircuitInstall := ⟨p, r, f⟩
def duskPlan (s : State) : State :=
  { s with floodPlan := put s.floodPlan 15 ⟨true, 4, 127#7, none, .dusk 0, .time 1439⟩ }
def onPlan (s : State) : State :=
  { s with floodPlan := put s.floodPlan 15 ⟨true, 4, 127#7, none, .time 5, .time 1439⟩ }
def suns : List SunPair := [⟨300, 1440⟩, ⟨300, 200⟩]
def table : Vector SunPair 24 := put (put timed.duskTable 10 ⟨300, 1439⟩) 11 ⟨300, 200⟩
def table1 : Vector SunPair 24 := put timed.duskTable 10 ⟨5, 1439⟩
def gone (f : Circuit → Circuit) : State := cs .off fun x => f { x with present := false }

/-- The circuit as an install record `⟨true, 10, true⟩` makes it present. -/
def made (s : State) : Circuit :=
  { s.circuits[2] with present := true, restrike := clamp 0 15 10, fbPresent := true, fbFrom := s.timer }

theorem witness_PeaksMoveTheDrive :
    (let s : State := dv .kick id; s.running = true ∧ NoHeads s ∧ (s.drives[2].state = SwingState.kick ∨
      s.drives[2].state = SwingState.rise ∨ s.drives[2].state = SwingState.ringing) ∧ 170 ≤ 170) ∧
    (let s : State := dv .stopping (pu .reverse (some 1000100) true); s.running = true ∧ NoHeads s ∧
      s.drives[2].state = SwingState.stopping ∧ 170 ≤ 170) ∧
    (let s : State := dv .settle (pu .forward (some 1000100) true); s.running = true ∧ NoHeads s ∧
      (s.drives[2].state = SwingState.down ∨ s.drives[2].state = SwingState.lift ∨
      s.drives[2].state = SwingState.queued ∨ s.drives[2].state = SwingState.settle ∨
      s.drives[2].state = SwingState.drop)) ∧
    (let s : State := dv .kick id; s.running = true ∧ NoHeads s ∧ s.drives[2].state = SwingState.kick ∧ 30 ≤ 169 ∧
      169 < 170) ∧
    (let s : State := dv .rise (pu .reverse (some 1000100) true); s.running = true ∧ NoHeads s ∧
      s.drives[2].state = SwingState.rise ∧ 169 < 170) ∧
    (let s : State := dv .ringing (pu .forward (some 1000100) false); s.running = true ∧ NoHeads s ∧
      s.drives[2].state = SwingState.ringing ∧ 169 < 170) ∧
    (let s : State := dv .stopping (pu .reverse (some 1000100) true); s.running = true ∧ NoHeads s ∧
      s.drives[2].state = SwingState.stopping ∧ 169 < 170 ∧ s.drives[2].rest ≤ 169) ∧
    (let s : State := dv .kick id; s.running = true ∧ NoHeads s ∧ s.drives[2].state = SwingState.kick ∧ 29 < 30) ∧
    (let s : State := dv .stopping (pu .reverse (some 1000100) true); s.running = true ∧ NoHeads s ∧
      s.drives[2].state = SwingState.stopping ∧ 7 < 170 ∧ 7 < s.drives[2].rest) := by
  and_intros <;> decide +kernel

theorem witness_JogMovesOrInterlocks :
    (Ready h0 dn ∧ dn.driveOf 3 = some 2 ∧ dn.bells[3].present = true ∧ dn.rights[h0.station].install = true ∧
      dn.bells[3].holder ≠ Holder.station h0.station ∧ (¬(dn.bells[3].holder = Holder.swing ∧
      dn.bells[3].behalf = some h0.station ∧ dn.drives[2].state = SwingState.lift))) ∧
    (let s : State := noI (jd id); Ready h0 s ∧ s.driveOf 3 = some 2 ∧ s.bells[3].present = true ∧
      s.rights[h0.station].install = false) ∧
    (let s : State := jd id; Ready h0 s ∧ s.driveOf 3 = some 2 ∧ s.bells[3].present = true ∧
      s.rights[h0.station].install = true ∧ s.bells[3].holder = Holder.station h0.station ∧
      s.drives[2].state = SwingState.down ∧ s.drives[2].jog = none ∧ s.drives[2].rev.closed = false ∧
      s.drives[2].rev.lastOpened + s.drives[2].deadTime ≤ s.timer) ∧
    (let s : State := jd id; Ready h0 s ∧ s.driveOf 3 = some 2 ∧ s.bells[3].present = true ∧
      s.rights[h0.station].install = true ∧ s.bells[3].holder = Holder.station h0.station ∧
      s.drives[2].state = SwingState.down ∧ s.drives[2].jog = none ∧ s.drives[2].fwd.closed = false ∧
      s.drives[2].fwd.lastOpened + s.drives[2].deadTime ≤ s.timer) ∧
    (let s : State := lifting .lift (some 0); Ready h0 s ∧ s.driveOf 3 = some 2 ∧ s.bells[3].present = true ∧
      s.rights[h0.station].install = true ∧ s.bells[3].holder ≠ Holder.station h0.station ∧
      s.bells[3].holder = Holder.swing ∧ s.bells[3].behalf = some h0.station ∧ s.drives[2].state = SwingState.lift) ∧
    (let s : State := jd (rv 999701); Ready h0 s ∧ s.driveOf 3 = some 2 ∧ s.bells[3].present = true ∧
      s.rights[h0.station].install = true ∧ s.bells[3].holder = Holder.station h0.station ∧
      s.drives[2].state = SwingState.down ∧ s.drives[2].jog = none ∧
      s.timer < s.drives[2].rev.lastOpened + s.drives[2].deadTime) ∧
    (let s : State := jd (fw 999701); Ready h0 s ∧ s.driveOf 3 = some 2 ∧ s.bells[3].present = true ∧
      s.rights[h0.station].install = true ∧ s.bells[3].holder = Holder.station h0.station ∧
      s.drives[2].state = SwingState.down ∧ s.drives[2].jog = none ∧
      s.timer < s.drives[2].fwd.lastOpened + s.drives[2].deadTime) ∧
    (let s : State := hold (dv .rise id) (.station 0) none; Ready h0 s ∧ s.driveOf 3 = some 2 ∧
      s.bells[3].present = true ∧ s.rights[h0.station].install = true ∧
      s.bells[3].holder = Holder.station h0.station ∧ s.drives[2].state ≠ SwingState.down) ∧
    (let s : State := jd (jg .reverse 999000 1000010 true); let x : Jog := ⟨.reverse, 999000, 1000010, 1, true⟩;
      Ready h0 s ∧ s.driveOf 3 = some 2 ∧ s.bells[3].present = true ∧ s.rights[h0.station].install = true ∧
      s.bells[3].holder = Holder.station h0.station ∧ s.drives[2].state = SwingState.down ∧
        s.drives[2].jog = some x) := by
  and_intros <;> decide +kernel

theorem witness_ForceMovesTheCircuit :
    (let s : State := ck timed (fun x => { x with present := false }); Ready h0 s ∧
      s.rights[h0.station].light = true ∧ s.circuits[2].present = false) ∧
    (let s : State := cw (.circuit 2) (cs .off old); Ready h0 s ∧ s.rights[h0.station].light = true ∧
      s.circuits[2].present = true ∧ s.gate.limit = true ∧ NoFireWatch (Target.circuit 2) s ∧
      s.circuits[2].state = CircuitState.off ∧
      s.circuits[2].lastOpen + ↑s.circuits[2].restrike * 60000 ≤ ↑s.timer ∧ (∀ (r : GateReq), r ∈ s.gate.queue →
      r.who ≠ Requester.circuit 2)) ∧
    (let s : State := cs .off old; Ready h0 s ∧ s.rights[h0.station].light = true ∧ s.circuits[2].present = true ∧
      s.gate.limit = true ∧ NoFireWatch (Target.circuit 2) s ∧ s.circuits[2].force = none ∧
      s.circuits[2].state ≠ CircuitState.fault) ∧
    (let s : State := cs .off young; Ready h0 s ∧ s.rights[h0.station].light = true ∧ s.circuits[2].present = true ∧
      s.gate.limit = true ∧ NoFireWatch (Target.circuit 2) s ∧ s.circuits[2].state = CircuitState.off ∧
      (¬s.circuits[2].lastOpen + ↑s.circuits[2].restrike * 60000 ≤ ↑s.timer)) ∧
    (let s : State := cw (.circuit 2) (cs .on frc); Ready h0 s ∧ s.rights[h0.station].light = true ∧
      s.circuits[2].present = true ∧ s.gate.limit = true ∧ NoFireWatch (Target.circuit 2) s ∧
      s.circuits[2].state ≠ CircuitState.off) ∧
    (let s : State := cs .on frc; Ready h0 s ∧ s.rights[h0.station].light = true ∧ s.circuits[2].present = true ∧
      s.gate.limit = true ∧ NoFireWatch (Target.circuit 2) s ∧ s.circuits[2].force ≠ none ∧
      s.circuits[2].planOn = false ∧ (s.circuits[2].state = CircuitState.on ∨
      s.circuits[2].state = CircuitState.closing)) ∧
    (let s : State := cw (.circuit 2) (cs .fault fun x => old { x with cause := .stuck }); Ready h0 s ∧
      s.rights[h0.station].light = true ∧ s.circuits[2].present = true ∧ s.gate.limit = true ∧
      NoFireWatch (Target.circuit 2) s ∧ s.circuits[2].state = CircuitState.fault ∧
      s.circuits[2].lastOpen + ↑s.circuits[2].restrike * 60000 ≤ ↑s.timer ∧ s.circuits[2].planOn = false) ∧
    (let s : State := cs .fault (fun x => young { x with cause := .stuck }); Ready h0 s ∧
      s.rights[h0.station].light = true ∧ s.circuits[2].present = true ∧ s.gate.limit = true ∧
      NoFireWatch (Target.circuit 2) s ∧ s.circuits[2].state = CircuitState.fault ∧
      (¬s.circuits[2].lastOpen + ↑s.circuits[2].restrike * 60000 ≤ ↑s.timer)) ∧
    (let s : State := cs .fault (fun x => pon (old (frc x))); Ready h0 s ∧ s.rights[h0.station].light = true ∧
      s.circuits[2].present = true ∧ s.gate.limit = true ∧ NoFireWatch (Target.circuit 2) s ∧
      s.circuits[2].state = CircuitState.fault ∧ s.circuits[2].lastOpen + ↑s.circuits[2].restrike * 60000 ≤ ↑s.timer ∧
      s.circuits[2].planOn = true ∧ (∀ (r : GateReq), r ∈ s.gate.queue → r.who ≠ Requester.circuit 2)) ∧
    (let s : State := gw (cs .waiting (fun x => old (frc x))); Ready h0 s ∧ s.rights[h0.station].light = true ∧
      s.circuits[2].present = true ∧ s.gate.limit = true ∧ NoFireWatch (Target.circuit 2) s ∧
      s.circuits[2].force ≠ none ∧ s.circuits[2].planOn = false ∧ s.circuits[2].state = CircuitState.waiting) ∧
    (let s : State := cs .off (fun x => old (dark x)); Ready h0 s ∧ s.rights[h0.station].light = true ∧
      s.circuits[2].present = true ∧ s.gate.limit = true ∧ NoFireWatch (Target.circuit 2) s ∧
      s.circuits[2].force ≠ none ∧ s.circuits[2].planOn = false ∧ (s.circuits[2].state = CircuitState.off ∨
      s.circuits[2].state = CircuitState.cooling)) ∧
    (let s : State := cs .off (fun x => pon (old (dark x))); Ready h0 s ∧ s.rights[h0.station].light = true ∧
      s.circuits[2].present = true ∧ s.gate.limit = true ∧ NoFireWatch (Target.circuit 2) s ∧
      s.circuits[2].force ≠ none ∧ s.circuits[2].planOn = true ∧ s.circuits[2].state = CircuitState.off ∧
      s.circuits[2].lastOpen + ↑s.circuits[2].restrike * 60000 ≤ ↑s.timer ∧ (∀ (r : GateReq), r ∈ s.gate.queue →
      r.who ≠ Requester.circuit 2)) ∧
    (let s : State := cs .off (fun x => pon (young (dark x))); Ready h0 s ∧ s.rights[h0.station].light = true ∧
      s.circuits[2].present = true ∧ s.gate.limit = true ∧ NoFireWatch (Target.circuit 2) s ∧
      s.circuits[2].force ≠ none ∧ s.circuits[2].planOn = true ∧ s.circuits[2].state = CircuitState.off ∧
      (¬s.circuits[2].lastOpen + ↑s.circuits[2].restrike * 60000 ≤ ↑s.timer)) ∧
    (let s : State := cs .cooling (fun x => pon (young (dark x))); Ready h0 s ∧ s.rights[h0.station].light = true ∧
      s.circuits[2].present = true ∧ s.gate.limit = true ∧ NoFireWatch (Target.circuit 2) s ∧
      s.circuits[2].force ≠ none ∧ s.circuits[2].planOn = true ∧ (s.circuits[2].state = CircuitState.cooling ∨
      s.circuits[2].state = CircuitState.waiting ∨ s.circuits[2].state = CircuitState.closing ∨
      s.circuits[2].state = CircuitState.on)) ∧
    (let s : State := cs .off old; Ready h0 s ∧ s.rights[h0.station].light = true ∧ s.circuits[2].present = true ∧
      s.gate.limit = true ∧ NoFireWatch (Target.circuit 2) s ∧ (s.circuits[2].state = CircuitState.off ∨
      s.circuits[2].state = CircuitState.cooling ∨ s.circuits[2].state = CircuitState.fault)) ∧
    (let s : State := cs .on frc; Ready h0 s ∧ s.rights[h0.station].light = true ∧ s.circuits[2].present = true ∧
      s.gate.limit = true ∧ NoFireWatch (Target.circuit 2) s ∧ (s.circuits[2].state = CircuitState.on ∨
      s.circuits[2].state = CircuitState.closing)) ∧
    (let s : State := gw (cs .waiting old); Ready h0 s ∧ s.rights[h0.station].light = true ∧
      s.circuits[2].present = true ∧ s.gate.limit = true ∧ NoFireWatch (Target.circuit 2) s ∧
      s.circuits[2].state = CircuitState.waiting) := by
  and_intros <;> decide +kernel

theorem witness_FloodTablesAndInstalls :
    (let s : FloodPlanBody := { fpb2 with enabled := false }; Ready h0 timed ∧
      timed.rights[h0.station].program = true ∧ readTrigger s.on = some (Trigger.time 5) ∧
      readTrigger s.off = some (Trigger.time 1439) ∧ windowOk s.window = true ∧
      (∀ (c : CircuitNo),
        ({ timed with
          floodPlan := put timed.floodPlan 15 ⟨s.enabled, s.circuits, s.days, s.window, .time 5, .time 1439⟩ } :
          State).planLevel c =
           timed.circuits[c].planOn)) ∧
    (Ready h0 timed ∧ timed.rights[h0.station].program = true ∧
      (∀ (c : CircuitNo),
        ({ timed with duskTable := put timed.duskTable 23 ⟨clamp 0 1439 5, clamp 0 1439 1440⟩ } : State).planLevel c =
           timed.circuits[c].planOn)) ∧
    (Ready h0 timed ∧ timed.rights[h0.station].program = true ∧ 10 + [(⟨5, 1440⟩ : SunPair)].length ≤ 24 ∧
      (∀ (j : Fin 24), j < 10 ∨ 10 + [(⟨5, 1440⟩ : SunPair)].length ≤ ↑j → table1[j] = timed.duskTable[j]) ∧
      (∀ j : Fin 24, 10 ≤ j → ∀ p ∈ [(⟨5, 1440⟩ : SunPair)][j.val - 10]?, table1[j] = ⟨clamp 0 1439 p.dusk,
        clamp 0 1439 p.dawn⟩) ∧
      (∀ (c : CircuitNo), ({ timed with duskTable := table1 } : State).planLevel c = timed.circuits[c].planOn)) ∧
    (Ready h0 timed ∧ timed.rights[h0.station].program = true ∧ 24 < 24 + [(⟨5, 1440⟩ : SunPair)].length) ∧
    (let s : State := onPlan (cs .on pon); let x : FloodPlanBody := { fpb2 with enabled := false }; Ready h0 s ∧
      s.rights[h0.station].program = true ∧ readTrigger x.on = some (Trigger.time 5) ∧
      readTrigger x.off = some (Trigger.time 1439) ∧ windowOk x.window = true ∧
      Replanned 2 s ({ s with
        floodPlan := put s.floodPlan 15 ⟨x.enabled, x.circuits, x.days, x.window, .time 5, .time 1439⟩ } : State)) ∧
    (let s : State := duskPlan (cs .off old); Ready h0 s ∧ s.rights[h0.station].program = true ∧
      10 + suns.length ≤ 24 ∧ (∀ (j : Fin 24), j < 10 ∨ 10 + suns.length ≤ ↑j → table[j] = s.duskTable[j]) ∧
      (∀ j : Fin 24, 10 ≤ j → ∀ p ∈ suns[j.val - 10]?, table[j] = ⟨clamp 0 1439 p.dusk, clamp 0 1439 p.dawn⟩) ∧
      Replanned 2 s ({ s with duskTable := table } : State)) ∧
    (let s : State := cw (.circuit 2) (cs .off old); let x : Sys2Proof.CircuitInstall := ci true 10 true;
      Ready h0 s ∧ MayInstall h0 s ∧ s.circuits[2].present = true ∧ s.gate.limit = true ∧
      NoFireWatch (Target.circuit 2) s ∧ x.present = true ∧
      (s.circuits[2].state = CircuitState.on ∨ s.circuits[2].state = CircuitState.fault ∨
      s.circuits[2].state = CircuitState.closing ∧ x.fbPresent = true ∨ s.circuits[2].state = CircuitState.cooling ∧
      ¬s.circuits[2].lastOpen + ((clamp 0 15 x.restrike : Nat) : Int) * 60000 ≤ ↑s.timer ∨
      (s.circuits[2].state = CircuitState.off ∨ s.circuits[2].state = CircuitState.waiting) ∧
      s.circuits[2].lastOpen + ((clamp 0 15 x.restrike : Nat) : Int) * 60000 ≤ ↑s.timer)) ∧
    (let s : State := cs .off young; let x : Sys2Proof.CircuitInstall := ci true 10 true; Ready h0 s ∧
      MayInstall h0 s ∧ s.circuits[2].present = true ∧ s.gate.limit = true ∧ NoFireWatch (Target.circuit 2) s ∧
      x.present = true ∧ s.circuits[2].state = CircuitState.off ∧
      (¬s.circuits[2].lastOpen + ((clamp 0 15 x.restrike : Nat) : Int) * 60000 ≤ ↑s.timer)) ∧
    (let s : State := gw (cs .waiting young); let x : Sys2Proof.CircuitInstall := ci true 10 true; Ready h0 s ∧
      MayInstall h0 s ∧ s.circuits[2].present = true ∧ s.gate.limit = true ∧ NoFireWatch (Target.circuit 2) s ∧
      x.present = true ∧ s.circuits[2].state = CircuitState.waiting ∧
      (¬s.circuits[2].lastOpen + ((clamp 0 15 x.restrike : Nat) : Int) * 60000 ≤ ↑s.timer)) ∧
    (let s : State := cs .cooling old; let x : Sys2Proof.CircuitInstall := ci true 10 true; Ready h0 s ∧
      MayInstall h0 s ∧ s.circuits[2].present = true ∧ s.gate.limit = true ∧ NoFireWatch (Target.circuit 2) s ∧
      x.present = true ∧ s.circuits[2].state = CircuitState.cooling ∧
      s.circuits[2].lastOpen + ((clamp 0 15 x.restrike : Nat) : Int) * 60000 ≤ ↑s.timer ∧
      s.circuits[2].desired = false) ∧
    (let s : State := cs .cooling (fun x => pon (old x)); let x : Sys2Proof.CircuitInstall := ci true 10 true;
      Ready h0 s ∧ MayInstall h0 s ∧ s.circuits[2].present = true ∧ s.gate.limit = true ∧
      NoFireWatch (Target.circuit 2) s ∧ x.present = true ∧ s.circuits[2].state = CircuitState.cooling ∧
      s.circuits[2].lastOpen + ((clamp 0 15 x.restrike : Nat) : Int) * 60000 ≤ ↑s.timer ∧
      s.circuits[2].desired = true ∧ (∀ (q : GateReq), q ∈ s.gate.queue → q.who ≠ Requester.circuit 2)) ∧
    (let s : State := cs .closing (fun x => { x with fbPresent := true, fbDeadline := some 9 });
      let x : Sys2Proof.CircuitInstall := ci true 10 false; Ready h0 s ∧ MayInstall h0 s ∧
      s.circuits[2].present = true ∧ s.gate.limit = true ∧ NoFireWatch (Target.circuit 2) s ∧ x.present = true ∧
      s.circuits[2].state = CircuitState.closing ∧ x.fbPresent = false) ∧
    (let s : State := cs .off old; let x : Sys2Proof.CircuitInstall := ci false 0 false; Ready h0 s ∧
      MayInstall h0 s ∧ s.circuits[2].present = true ∧ s.gate.limit = true ∧ NoFireWatch (Target.circuit 2) s ∧
      x.present = false ∧ s.circuits[2].state = CircuitState.off ∧ s.circuits[2].force = none) ∧
    (let s : State := gw (cs .waiting old); let x : Sys2Proof.CircuitInstall := ci false 0 false; Ready h0 s ∧
      MayInstall h0 s ∧ s.circuits[2].present = true ∧ s.gate.limit = true ∧ NoFireWatch (Target.circuit 2) s ∧
      x.present = false ∧ (s.circuits[2].state = CircuitState.waiting ∨ s.circuits[2].state = CircuitState.closing ∨
      s.circuits[2].state = CircuitState.on ∨ s.circuits[2].force ≠ none)) ∧
    (let s : State := gone old; Ready h0 s ∧ MayInstall h0 s ∧ s.circuits[2].present = false ∧
      s.circuits[2].planOn = false ∧ s.circuits[2].force = none ∧ s.gate.limit = true ∧
      NoFireWatch (Target.circuit 2) s ∧ (∀ q ∈ s.gate.queue, q.who ≠ Requester.circuit 2) ∧
      (made s).lastOpen + (made s).restrike * 60000 ≤ s.timer ∧
      (s.onCircuit 2 fun _ => made s).planLevel 2 = false) ∧
    (let s : State := gone young; Ready h0 s ∧ MayInstall h0 s ∧ s.circuits[2].present = false ∧
      s.circuits[2].planOn = false ∧ s.circuits[2].force = none ∧ s.gate.limit = true ∧
      NoFireWatch (Target.circuit 2) s ∧ (∀ q ∈ s.gate.queue, q.who ≠ Requester.circuit 2) ∧
      ¬(made s).lastOpen + (made s).restrike * 60000 ≤ s.timer) ∧
    (let s : State := onPlan (gone old); Ready h0 s ∧ MayInstall h0 s ∧ s.circuits[2].present = false ∧
      s.circuits[2].planOn = false ∧ s.circuits[2].force = none ∧ s.gate.limit = true ∧
      NoFireWatch (Target.circuit 2) s ∧ (∀ q ∈ s.gate.queue, q.who ≠ Requester.circuit 2) ∧
      (made s).lastOpen + (made s).restrike * 60000 ≤ s.timer ∧
      (s.onCircuit 2 fun _ => made s).planLevel 2 = true) := by
  and_intros <;> decide +kernel

end Motion

namespace Events

def dv (st : SwingState) (f : Drive → Drive) : State := hold (sw timed fun d => { f d with state := st }) .swing none
def darkT (x : Circuit) : Circuit := { x with force := some ⟨false, 1, .tower timed.now⟩ }
def fb (x : Circuit) : Circuit := { x with fbPresent := true }
def frc1 (x : Circuit) : Circuit :=
  { x with force := some ⟨true, 1, .tower (timed.now+1)⟩, contactor := true, planOn := true }
def ga (g : Gate → Gate) (f : Circuit → Circuit) : State :=
  (ck timed fun x => f { x with state := .waiting }).onGate fun x => g { x with queue := [⟨.circuit 2, 6⟩] }
def gl (t : Nat) (x : Gate) : Gate := { x with lastGrant := some t }
def gt (x : Gate) : Gate := { x with queue := x.queue ++ [⟨.circuit 4, 7⟩, ⟨.drive 2, 8⟩] }
def gd (g : Gate → Gate) (f : Drive → Drive) : State :=
  (dv .queued f).onGate fun x => g { x with queue := [⟨.drive 2, 6⟩] }
theorem witness_CircuitEvents :
    (let s : State := cs .on (fun x => { frc x with planOn := true }); s.running = true ∧
      s.circuits[2].present = true ∧ s.gate.limit = true ∧ Unwatched (Target.circuit 2) s ∧
      s.circuits[2].force = some { level := true, station := 1, expiry := Expiry.tower timed.now } ∧
      timed.now ≤ s.now ∧ s.circuits[2].planOn = true ∧ (s.circuits[2].state = CircuitState.on ∨
      s.circuits[2].state = CircuitState.closing ∨ s.circuits[2].state = CircuitState.waiting ∨
      s.circuits[2].state = CircuitState.cooling ∨ s.circuits[2].state = CircuitState.fault)) ∧
    (let s : State := cs .on (fun x => { frc x with planOn := true }); s.running = true ∧
      s.circuits[2].present = true ∧ s.gate.limit = true ∧ Unwatched (Target.circuit 2) s ∧
      s.circuits[2].state ≠ CircuitState.closing) ∧
    (let s : State := cs .on (fun x => { frc x with planOn := true }); s.running = true ∧
      s.circuits[2].present = true ∧ s.gate.limit = true ∧ Unwatched (Target.circuit 2) s ∧
      (s.circuits[2].state ≠ CircuitState.on ∨ s.circuits[2].fbPresent = false ∨
      s.timer < s.circuits[2].fbFrom + 500)) ∧
    (let s : State := cs .on (fun x => { frc x with planOn := true }); s.running = true ∧
      s.circuits[2].present = true ∧ s.gate.limit = true ∧ Unwatched (Target.circuit 2) s ∧
      (s.circuits[2].state = CircuitState.on ∨ s.circuits[2].state = CircuitState.closing ∨
      s.circuits[2].state = CircuitState.fault ∨ s.circuits[2].fbPresent = false ∨ s.circuits[2].contactor = true ∨
      ↑s.timer < s.circuits[2].lastOpen + 2000 ∨ s.timer < s.circuits[2].fbFrom + 2000)) ∧
    (let s : State := cs .on frc; s.running = true ∧ s.circuits[2].present = true ∧ s.gate.limit = true ∧
      Unwatched (Target.circuit 2) s ∧
      s.circuits[2].force = some { level := true, station := 1, expiry := Expiry.tower timed.now } ∧
      timed.now ≤ s.now ∧ s.circuits[2].planOn = false ∧ (s.circuits[2].state = CircuitState.on ∨
      s.circuits[2].state = CircuitState.closing)) ∧
    (let s : State := cs .closing (fun x => fb (frc x)); s.running = true ∧ s.circuits[2].present = true ∧
      s.gate.limit = true ∧ Unwatched (Target.circuit 2) s ∧ s.circuits[2].state = CircuitState.closing) ∧
    (let s : State := gw (cs .waiting (fun x => old (frc x))); s.running = true ∧ s.circuits[2].present = true ∧
      s.gate.limit = true ∧ Unwatched (Target.circuit 2) s ∧
      s.circuits[2].force = some { level := true, station := 1, expiry := Expiry.tower timed.now } ∧
      timed.now ≤ s.now ∧ s.circuits[2].planOn = false ∧ s.circuits[2].state = CircuitState.waiting) ∧
    (let s : State := cs .off (fun x => old (darkT x)); s.running = true ∧ s.circuits[2].present = true ∧
      s.gate.limit = true ∧ Unwatched (Target.circuit 2) s ∧
      s.circuits[2].force = some { level := false, station := 1, expiry := Expiry.tower timed.now } ∧
      timed.now ≤ s.now ∧ s.circuits[2].planOn = false ∧ (s.circuits[2].state = CircuitState.off ∨
      s.circuits[2].state = CircuitState.cooling ∨ s.circuits[2].state = CircuitState.fault)) ∧
    (let s : State := cs .off (fun x => old (pon (darkT x))); s.running = true ∧ s.circuits[2].present = true ∧
      s.gate.limit = true ∧ Unwatched (Target.circuit 2) s ∧
      s.circuits[2].force = some { level := false, station := 1, expiry := Expiry.tower timed.now } ∧
      timed.now ≤ s.now ∧ s.circuits[2].planOn = true ∧ s.circuits[2].state = CircuitState.off ∧
      s.circuits[2].lastOpen + ↑s.circuits[2].restrike * 60000 ≤ ↑s.timer ∧ (∀ (r : GateReq), r ∈ s.gate.queue →
      r.who ≠ Requester.circuit 2)) ∧
    (let s : State := cs .off (fun x => young (pon (darkT x))); s.running = true ∧ s.circuits[2].present = true ∧
      s.gate.limit = true ∧ Unwatched (Target.circuit 2) s ∧
      s.circuits[2].force = some { level := false, station := 1, expiry := Expiry.tower timed.now } ∧
      timed.now ≤ s.now ∧ s.circuits[2].planOn = true ∧ s.circuits[2].state = CircuitState.off ∧
      (¬s.circuits[2].lastOpen + ↑s.circuits[2].restrike * 60000 ≤ ↑s.timer)) ∧
    (let s : State := cs .off (fun x => young (pon (darkT x))); s.running = true ∧ s.circuits[2].present = true ∧
      s.gate.limit = true ∧ Unwatched (Target.circuit 2) s ∧
      ↑s.timer < s.circuits[2].lastOpen + ↑s.circuits[2].restrike * 60000) ∧
    (let s : State := cs .on frc1; s.running = true ∧ s.circuits[2].present = true ∧ s.gate.limit = true ∧
      Unwatched (Target.circuit 2) s ∧
      s.circuits[2].force = some { level := true, station := 1, expiry := Expiry.tower (timed.now + 1) } ∧
      s.now < timed.now + 1) ∧
    (let s : State := cs .cooling (fun x => { x with lastOpen := 400000 }); s.running = true ∧
      s.circuits[2].present = true ∧ s.gate.limit = true ∧ Unwatched (Target.circuit 2) s ∧
      s.circuits[2].state = CircuitState.cooling ∧
      s.circuits[2].lastOpen + ↑s.circuits[2].restrike * 60000 ≤ ↑s.timer ∧ s.circuits[2].desired = false) ∧
    (let s : State := cs .cooling (fun x => { x with lastOpen := 400000, planOn := true }); s.running = true ∧
      s.circuits[2].present = true ∧ s.gate.limit = true ∧ Unwatched (Target.circuit 2) s ∧
      s.circuits[2].state = CircuitState.cooling ∧
      s.circuits[2].lastOpen + ↑s.circuits[2].restrike * 60000 ≤ ↑s.timer ∧ s.circuits[2].desired = true ∧
      (∀ (r : GateReq), r ∈ s.gate.queue → r.who ≠ Requester.circuit 2)) ∧
    (let s : State := cs .closing (fun x => fb { x with fbDeadline := some 1000000, contactor := true });
      s.running = true ∧ s.circuits[2].present = true ∧ s.gate.limit = true ∧ Unwatched (Target.circuit 2) s ∧
      s.circuits[2].state = CircuitState.closing ∧ s.circuits[2].fbDeadline = some 1000000 ∧ 1000000 ≤ s.timer) ∧
    (let s : State := cs .closing (fun x => fb { x with fbDeadline := some 1000001, contactor := true });
      s.running = true ∧ s.circuits[2].present = true ∧ s.gate.limit = true ∧ Unwatched (Target.circuit 2) s ∧
      s.circuits[2].state = CircuitState.closing ∧ s.circuits[2].fbDeadline = some 1000001 ∧ s.timer < 1000001) ∧
    (let s : State := cs .on (fun x => fb { x with
        contactor := true, fbFrom := 999500, force := some ⟨true, 1, .untilChange⟩ });
      s.running = true ∧ s.circuits[2].present = true ∧ s.gate.limit = true ∧ Unwatched (Target.circuit 2) s ∧
      s.circuits[2].state = CircuitState.on ∧ s.circuits[2].fbPresent = true ∧ s.circuits[2].fbFrom + 500 ≤ s.timer) ∧
    (let s : State := cs .off (fun x => fb { x with lastOpen := 998000, fbFrom := 998000 }); s.running = true ∧
      s.circuits[2].present = true ∧ s.gate.limit = true ∧ Unwatched (Target.circuit 2) s ∧
      (s.circuits[2].state = CircuitState.off ∨ s.circuits[2].state = CircuitState.cooling ∨
      s.circuits[2].state = CircuitState.waiting) ∧ s.circuits[2].fbPresent = true ∧ s.circuits[2].contactor = false ∧
      s.circuits[2].lastOpen + 2000 ≤ ↑s.timer ∧ s.circuits[2].fbFrom + 2000 ≤ s.timer) := by
  and_intros <;> decide +kernel

theorem witness_GateGrantsItsHead :
    (let s : State := ga id id; s.running = true ∧ s.gate.queue = [{ who := Requester.circuit 2, since := 6 }] ∧
      (([] : List GateReq) = [] ∨ 1 ≤ s.gate.stagger) ∧ s.circuits[2].state = CircuitState.waiting ∧
        Unwatched (Target.circuit 2) s ∧
      (∀ (g : Nat), s.gate.lastGrant = some g → g + s.gate.stagger * 1000 ≤ s.timer) ∧ s.gate.limit = false) ∧
    (let s : State := (ga (fun g => gt (gl 997000 g)) id).onGate (fun g => { g with limit := true });
      (s.gate.queue ≠ [] ∧ s.gate.limit = true)) ∧
    (let s : State := gd gt id; let x : List GateReq := [⟨.circuit 4, 7⟩, ⟨.drive 2, 8⟩]; s.running = true ∧
      s.gate.queue = { who := Requester.drive 2, since := 6 } :: x ∧ (x = [] ∨ 1 ≤ s.gate.stagger) ∧
      s.drives[2].state = SwingState.queued ∧ NoHeads s ∧ (∀ (g : Nat), s.gate.lastGrant = some g →
      g + s.gate.stagger * 1000 ≤ s.timer) ∧ s.gate.limit = false ∧ s.drives[2].fwd.closed = false ∧
      s.drives[2].rev.closed = false ∧ s.drives[2].rev.lastOpened + s.drives[2].deadTime ≤ s.timer) ∧
    (let s : State := gd (fun g => gt (gl 997000 g)) (rv 999701); let x : List GateReq := [⟨.circuit 4, 7⟩, ⟨.drive 2,
      8⟩]; s.running = true ∧ s.gate.queue = { who := Requester.drive 2, since := 6 } :: x ∧ (x = [] ∨
      1 ≤ s.gate.stagger) ∧ s.drives[2].state = SwingState.queued ∧ NoHeads s ∧ (∀ (g : Nat),
      s.gate.lastGrant = some g → g + s.gate.stagger * 1000 ≤ s.timer) ∧ s.gate.limit = false ∧
      s.drives[2].fwd.closed = false ∧ s.drives[2].rev.closed = false ∧
      s.timer < s.drives[2].rev.lastOpened + s.drives[2].deadTime) ∧
    (let s : State := { timed with power := ⟨true, true, 0#32⟩ }; s.running = false) := by
  and_intros <;> decide +kernel

theorem witness_TransmitterTakesNext :
    (timed.links[0].tx = none) ∧
    (let s : State := lk (fun l => { busyTx l with reply := .held rf }); s.links[0].tx = some (OutFrame.notice nt) ∧
      (∀ (r : ReplyFrame), OutFrame.notice nt = OutFrame.reply r → r.after = After.nothing) ∧
      s.links[0].reply = ReplyPlace.held rf ∧ s.links[0].waiting = none) ∧
    (let s : State := lk (fun l => { busyTx l with
        reply := .held rf, notices := [nt], waiting := some ⟨0x02, 5, some .timeRead⟩ });
      s.links[0].tx = some (OutFrame.notice nt) ∧ (∀ (r : ReplyFrame), OutFrame.notice nt = OutFrame.reply r →
      r.after = After.nothing) ∧ s.links[0].reply = ReplyPlace.held rf ∧
      s.links[0].waiting = some { kind := 2#8, tag := 5, request := some Request.timeRead }) ∧
    (let s : State := lk (fun l => { busyTx l with notices := [.resync 1 2, nt] });
      s.links[0].tx = some (OutFrame.notice nt) ∧ (∀ (r : ReplyFrame), OutFrame.notice nt = OutFrame.reply r →
      r.after = After.nothing) ∧ s.links[0].reply = ReplyPlace.empty ∧ s.links[0].notices = [Notice.resync 1 2, nt]) ∧
    (let s : State := lk busyTx; s.links[0].tx = some (OutFrame.notice nt) ∧ (∀ (r : ReplyFrame),
      OutFrame.notice nt = OutFrame.reply r → r.after = After.nothing) ∧ s.links[0].reply = ReplyPlace.empty ∧
      s.links[0].notices = []) ∧
    (let s : Notice := .complete 5 (.test .missed); s = Notice.complete 5 (Completion.test TestOutcome.missed)) := by
  and_intros <;> first | decide +kernel | (intro _ h; cases h)

end Events

namespace Bytes

def rx (r : Receiver) : State := lk fun l => { busyTx l with rx := r }
def rb (v : Byte) (ok : Bool) : RxByte := ⟨v, ok⟩
def fe (k : Nat) : List Notice := [nt, .frameError .check k, nt]
def rxn (k : Nat) (r : Receiver) (t : Option OutFrame) : State :=
  lk fun l => { l with rx := r, notices := fe k, tx := t }

theorem witness_BytesMakeFrames :
    (Ready { station := 0, tag := 9, key := true } timed ∧ timed.links[0].rx = Receiver.hunt ∧
      (0x02#8, Instr.timeRead ⟨0, 9, true⟩) ∈ kindsWithoutFields ⟨0, 9, true⟩ ∧ 2#8 + 2#8 + 9#8 + 243#8 = 0#8) ∧
    (Ready { station := 0, tag := 9, key := true } timed ∧ timed.links[0].rx = Receiver.hunt ∧
      (0x66#8, Instr.statusRead ⟨0, 9, true⟩) ∈ kindsWithoutFields ⟨0, 9, true⟩ ∧
      3#8 + 0x66#8 + 9#8 + 0#8 + 142#8 = 0#8) ∧
    (Ready { station := 0, tag := 9, key := true } timed ∧ timed.links[0].rx = Receiver.hunt ∧
      3#8 + 0x1B#8 + 9#8 + 7#8 + 210#8 = 0#8 ∧ some (Request.bellRead 4) = some (.bellRead 4) ∧
      (none : Option Request) = none) ∧
    (let s : State := lk (fun l => { busyTx l with enabled := false, rx := .assembling [5] 999999 });
      (s.running = true ∧ s.links[0].enabled = false)) ∧
    (let s : State := rx (.assembling [0] 999980); s.running = true ∧ s.links[0].enabled = true ∧
      s.links[0].notices = [] ∧ s.links[0].tx ≠ none ∧ s.links[0].rx = Receiver.assembling [0] 999980 ∧
      (rb 211 false).stopOk = false) ∧
    (let s : State := rx (.assembling [0] 999980); s.running = true ∧ s.links[0].enabled = true ∧
      s.links[0].notices = [] ∧ s.links[0].tx ≠ none ∧ s.links[0].rx = Receiver.assembling [0] 999980 ∧
      999980 + 20 ≤ s.timer) ∧
    (let s : State := rx (.assembling [60] 999980); s.running = true ∧ s.links[0].enabled = true ∧
      s.links[0].notices = [] ∧ s.links[0].tx ≠ none ∧ s.links[0].rx = Receiver.assembling [60] 999980 ∧
      (rb 211 true).stopOk = true ∧ (([60] : List Byte) = [] ∧ 2 ≤ BitVec.toNat (rb 211 true).value ∧
      BitVec.toNat (rb 211 true).value ≤ 60 ∨ ([60] : List Byte).length < BitVec.toNat (60 : Byte) + 1)) ∧
    (let s : State := rx .hunt; s.running = true ∧ s.links[0].enabled = true ∧ s.links[0].notices = [] ∧
      s.links[0].tx ≠ none ∧ s.links[0].rx = Receiver.hunt) ∧
    (let s : State := rx (.assembling [] 999980); s.running = true ∧ s.links[0].enabled = true ∧
      s.links[0].notices = [] ∧ s.links[0].tx ≠ none ∧ s.links[0].rx = Receiver.assembling [] 999980 ∧
      (rb 211 true).stopOk = true ∧ (BitVec.toNat (rb 211 true).value < 2 ∨ 60 < BitVec.toNat (rb 211 true).value)) ∧
    (let s : State := rx (.assembling [5, 2] 999981); s.running = true ∧ s.links[0].enabled = true ∧
      s.links[0].notices = [] ∧ s.links[0].tx ≠ none ∧ s.links[0].rx = Receiver.assembling [5, 2] 999981 ∧
      s.timer < 999981 + 20) ∧
    (let s : State := rx (.assembling [2, 2, 5] 999981); s.running = true ∧ s.links[0].enabled = true ∧
      s.links[0].notices = [] ∧ s.links[0].tx ≠ none ∧ s.links[0].rx = Receiver.assembling [2, 2, 5] 999981 ∧
      (rb 211 true).stopOk = true ∧ BitVec.toNat (2 : Byte) = ([] : List Byte).length + 2 ∧
      List.foldl (fun x y => x + y) (0#8) ([2, 2, 5] ++ [(rb 211 true).value]) ≠ 0#8) ∧
    (let s : State := rxn 1 (.assembling [5, 2] 999980) (some (.notice nt)); s.running = true ∧
      s.links[0].enabled = true ∧ s.links[0].notices = [nt] ++ [Notice.frameError Discard.check 1, nt] ∧
      (∀ (y : Notice), y ∈ [nt] ++ [nt] → ∀ (c : Discard) (j : Nat), y ≠ Notice.frameError c j) ∧
      s.links[0].rx = Receiver.assembling [5, 2] 999980 ∧ 999980 + 20 ≤ s.timer) := by
  and_intros <;> first | decide +kernel | simp [nt]

end Bytes

namespace Quarters

/-- The hypotheses on a minute event at which quarter `q`, its slot set to `i`, raises a request. -/
abbrev Due (q : Quarter) (i : SlotNo) (s : State) : Prop :=
  let u : State := { s with tb := s.tb.redecide.see }
  s.minuteDue = true ∧ s.tb.validity ≠ .unset ∧ PlanSteady u ∧ Unscheduled s ∧
    u.tb.loc.minute % 60 = quarterMinute q ∧ s.plan.slotOf q = some i ∧ u.silenced .quarters = false ∧
    (q ≠ .q00 ∨ s.hour.state = .idle)
/-- A TUNE entry's request is lost. -/
abbrev Lost (i : SlotNo) (s : State) : Prop := s.slots[i].state ≠ .ready ∨ 8 ≤ s.player.queue.length

def testLim (n : Nat) (s : State) : State := s.onPlayer fun p => { p with testedLimit := n }
def freeT (s : State) : State :=
  testLim 7 (s.onSlot 0 fun _ => ⟨.ready, [65], 100, 2, [some (st [3, 5, 7] 8), some (st [] 4)], none, 0⟩)
def busyT (s : State) : State :=
  (freeT s).onPlayer fun p => { p with
    play := some (playAt 0 0 0 2 (some 1000000) 990000 (.schedule 3)), failing := some (5, .held) }
def rs (n : Nat) : TuneReq := ⟨n, 0, .schedule 4, 1, 990000, false⟩
def rq (f : Bool) : TuneReq := ⟨3, 0, .quarter .q30, 1, 990000, f⟩
def late : TuneReq := ⟨3, 0, .quarter .q00, 1, 880000, true⟩
/-- The hour run, in FOLLOW WAIT for request `id`. -/
def follows (id : Nat) (s : State) : State :=
  { unrec s with plan := { s.plan with hourBell := 3 } }.onHour fun x => { x with
    state := .followWait, awaited := some id, boundary := 780, deadline := 1200000 }
/-- The boundary of a minute, with slots set for :00, :15 and :45. -/
def atSec (n : Nat) (s : State) : State :=
  { unrec s with
    plan := { s.plan with hourBell := 3, slot00 := some 0, slot15 := some 1, slot45 := some 0 }
    tb := { timed.tb with secs := n, ms := 0 } }
def entT (i : SlotNo) : Entry := ⟨true, .station 0, .time 815, 127#7, none, none, .tune i 3, none⟩
def tuneE (i : SlotNo) (s : State) : State :=
  { s with tb := { timed.tb with secs := 45300, ms := 0 } }.setEntry 5 (some (entT i))
def entR (s : State) : TuneReq := ⟨s.player.nextId, 0, .schedule 5, 3, s.timer, false⟩

theorem witness_PlaysQueueAndStep_entries :
    (let s := tuneE 0 (busyT timed); FiresAlone 5 (entT 0) s ∧ (entT 0).action = .tune 0 3 ∧ ¬Lost 0 s ∧
      s.player.play ≠ none) ∧
    (let s := tuneE 1 (busyT timed); FiresAlone 5 (entT 1) s ∧ (entT 1).action = .tune 1 3 ∧ Lost 1 s ∧
      (s.player.play ≠ none ∨ s.player.queue = [])) ∧
    (let s := tuneE 0 (queued (busyT timed) (List.replicate 8 (rs 1))); FiresAlone 5 (entT 0) s ∧ Lost 0 s ∧
      (s.player.play ≠ none ∨ s.player.queue = [])) ∧
    (let s := tuneE 0 (quietAll (freeT timed)); FiresAlone 5 (entT 0) s ∧ ¬Lost 0 s ∧ s.player.queue = [] ∧
      s.player.play = none ∧ (firedAlone 5 (entT 0) s).silenced .scheduled = true) ∧
    (let s := tuneE 0 (freeT timed); FiresAlone 5 (entT 0) s ∧ ¬Lost 0 s ∧ TuneFree (entR s) (st [3, 5, 7] 8) s ∧
      (firedAlone 5 (entT 0) s).silenced .scheduled = false) := by
  and_intros <;> decide +kernel

theorem witness_PlaysQueueAndStep_quarters :
    (let s := atSec 45900 (queued (busyT timed) [rs 1, rs 2]); Due .q45 0 s ∧ s.slots[0].state = .ready ∧
      s.player.play ≠ none ∧ s.player.queue.length < 8 ∧ (∀ x ∈ s.player.queue, x.isQuarter = false)) ∧
    (let s := atSec 46800 (busyT timed); Due .q00 0 s ∧ s.slots[0].state = .ready ∧ s.player.play ≠ none ∧
      s.player.queue.length < 8 ∧ (∀ x ∈ s.player.queue, x.isQuarter = false)) ∧
    (let s := atSec 45900 (queued (busyT timed) [rs 1, rq false, rs 2]); Due .q45 0 s ∧ s.slots[0].state = .ready ∧
      s.player.play ≠ none ∧ s.player.queue = [rs 1] ++ rq false :: [rs 2] ∧ (rq false).source = .quarter .q30 ∧
      (∀ x ∈ [rs 1] ++ [rs 2], x.isQuarter = false) ∧ (rq false).follow = false) ∧
    (let s := atSec 45900 (follows 3 (queued (busyT timed) [rq true])); Due .q45 0 s ∧ s.slots[0].state = .ready ∧
      s.player.play ≠ none ∧ s.player.queue = [] ++ rq true :: [] ∧ (rq true).source = .quarter .q30 ∧
      FirstBlowWaits { s with tb := s.tb.redecide.see }) ∧
    (let s := atSec 47700 (freeT timed); Due .q15 1 s ∧ (s.player.play ≠ none ∨ s.player.queue = []) ∧
      s.slots[1].state ≠ .ready) ∧
    (let s := atSec 46800 (queued (busyT timed) (List.replicate 8 (rs 1))); Due .q00 0 s ∧
      (s.player.play ≠ none ∨ s.player.queue = []) ∧ 8 ≤ s.player.queue.length ∧
      (∀ x ∈ s.player.queue, x.isQuarter = false) ∧
      FirstBlowWaits ({ s with tb := s.tb.redecide.see }.onHour fun x => { x with
        boundary := 840, deadline := s.timer + s.plan.lateLimit * 60000, state := .followWait, awaited := some 0 })) ∧
    (let s := atSec 46800 (freeT timed); Due .q00 0 s ∧ s.slots[0].state = .ready ∧
      TuneFree ⟨s.player.nextId, 0, .quarter .q00, 1, s.timer, true⟩ (st [3, 5, 7] 8) s) ∧
    (let s := follows 3 (queued (testLim 120 timed) [late]); s.player.queue = [late] ∧
      late.postTime + s.player.testedLimit * 1000 ≤ s.timer ∧ late.follow = true ∧ FirstBlowWaits s) := by
  and_intros <;> decide +kernel

/-- R83, R112: the minute event of 14:00 local with hour strike on and the :00 slot set, while a tune is played: the
request waits with its follow flag and the hour run is in FOLLOW WAIT for it. -/
theorem test_quarter_at_the_hour :
    let t := nextOf (exec .minuteEvent (atSec 46800 (busyT timed)))
    t.hour.state = .followWait ∧ t.hour.awaited = some 0 ∧
      t.player.queue = [⟨0, 0, .quarter .q00, 1, 1000000, true⟩] ∧
      t.player.q00 = ⟨.waiting, some ⟨⟨2024, 6, 15⟩, 50400⟩⟩ := by
  and_intros <;> decide +kernel

def pQ (f : Bool) (start : Nat) : Play :=
  { playAt 0 0 0 1 none start (.quarter .q00) with startTimer := start, follow := f }
/-- A play of the :00 quarter, its strike in the list and its bell marked. -/
def plays (f : Bool) (start : Nat) : State :=
  { playing full (pQ f start) with
    tollQueue := [], strikes := [stk 1 3 5 (.tune 1) true], marks := put full.marks 3 ⟨false, false, true⟩ }
/-- What the end of the play leaves before anyone hears of it. -/
def ended (p : Play) (s : State) : State :=
  (forAll p.bellSet (fun b (u : State) => released b (u.onMarks b fun m => { m with tune := false }))
    { s with strikes := s.strikes.filter fun x => x.source ≠ .tune p.number }).onPlayer fun q => { q with
      play := none, failing := none }

theorem witness_PlayEnds_quarter :
    (let s := plays false 999100; s.player.play = some (pQ false 999100) ∧ s.player.queue = [] ∧
      (∀ b ∈ (pQ false 999100).bellSet, s.bells[b].waiting = [] ∨ s.marks[b].tune = true ∧ MarkHead b s) ∧
      999100 + s.slots[0].playTime 1 ≤ s.timer ∧ (pQ false 999100).follow = false) ∧
    (let s := follows 5 (plays true 999100); s.player.play = some (pQ true 999100) ∧ s.player.queue = [] ∧
      (∀ b ∈ (pQ true 999100).bellSet, s.bells[b].waiting = [] ∨ s.marks[b].tune = true ∧ MarkHead b s) ∧
      999100 + s.slots[0].playTime 1 ≤ s.timer ∧ 0 < s.plan.gap) ∧
    (let s := follows 5 (plays true 999101); s.player.play = some (pQ true 999101) ∧ s.player.queue = [] ∧
      Ready h0 s ∧ s.rights[h0.station].ring = true ∧
      (∀ b ∈ (pQ true 999101).bellSet, s.bells[b].waiting.head?.map Claim.claimant ≠ some (.station h0.station)) ∧
      (pQ true 999101).source = .quarter .q00 ∧ FirstBlowWaits (ended (pQ true 999101) s)) := by
  and_intros <;> decide +kernel

/-- R85: TUNE STOP of the quarter that the hour run awaits lets the run start at once; COMPLETED puts it in GAP for the 2 s
set. -/
theorem test_hour_follows_its_quarter :
    (nextOf (exec (.tuneStop h0) (follows 5 (plays true 999101)))).hour.state = .striking ∧
      (let t := nextOf (exec .playComplete (follows 5 (plays true 999100)));
        t.hour.state = .gap ∧ t.hour.gapEnd = 1002000 ∧ t.player.q00.mark = .ended .completed) := by
  and_intros <;> decide +kernel

def rst (n : Station) : TuneReq := ⟨2, 3, .station n 8, 1, 990000, false⟩
def rq3 : TuneReq := ⟨5, 3, .quarter .q30, 1, 990000, true⟩

theorem witness_TuneBeginReservesThePool_waiting :
    (let s := follows 5 (queued timed [rst 0, rq3]); Ready h0 s ∧ s.rights[h0.station].program = true ∧
      nameOk [65] = true ∧ s.player.play = none ∧ s.slots[3].state ≠ .loading ∧
      100 ≤ s.poolFree + s.slots[3].reserved ∧ (s.player.queue.filter fun r => r.slot = 3) ≠ [] ∧
      (s.player.queue.filter fun r => r.slot ≠ 3) = [] ∧ FirstBlowWaits s) ∧
    (let s := queued (busyT timed) [rst 1, rs 1]; Ready h0 s ∧ s.rights[h0.station].program = true ∧
      (¬((∃ p, s.player.play = some p ∧ p.slot = 3) ∨
        (s.slots[3].state = .loading ∧ s.slots[3].loader ≠ some h0.station))) ∧
      100 ≤ s.poolFree + s.slots[3].reserved ∧ (s.player.queue.filter fun r => r.slot = 3) ≠ [] ∧
      s.player.play ≠ none ∧ (∀ r ∈ s.player.queue.filter fun r => r.slot = 3, r.follow = false)) := by
  and_intros <;> decide +kernel

def entS (l : List BellNo) : Entry := ⟨true, .station 0, .time 815, 127#7, none, none, .swing l 7, none⟩
def swE (l : List BellNo) (s : State) : State :=
  { s with tb := { timed.tb with secs := 45300, ms := 0 } }.setEntry 5 (some (entS l))
/-- Bell 4 on drive 3 and bell 7 on drive 5, in the states given. -/
def two (a b : SwingState) : State :=
  (sw timed fun d => { d with state := a }).onDrive 4 fun d => { d with bell := some 6, state := b }

theorem witness_SwingStartsAndLifts_entries :
    (let s := swE [3, 6, 9] (quietAll (two .down .rise)); FiresAlone 5 (entS [3, 6, 9]) s ∧ NoHeads s ∧
      (firedAlone 5 (entS [3, 6, 9]) s).silenced .scheduled = true) ∧
    (let s := swE [3, 6, 9] (two .settle .rise); FiresAlone 5 (entS [3, 6, 9]) s ∧ NoHeads s ∧
      (firedAlone 5 (entS [3, 6, 9]) s).silenced .scheduled = false ∧
      (∀ b ∈ ([3, 6, 9] : List BellNo), s.bells[b].present = true → ∀ d ∈ s.driveOf b,
        s.drives[d].state = .rise ∨ s.drives[d].state = .settle)) ∧
    (let s := swE [3] dn; FiresAlone 5 (entS [3]) s ∧ NoHeads s ∧
      (firedAlone 5 (entS [3]) s).silenced .scheduled = false ∧ s.driveOf 3 = some 2 ∧ s.bells[3].present = true ∧
      s.drives[2].state = .down ∧ s.drives[2].claimWaiting = none ∧ s.bells[3].holder = .clock ∧
      s.inSequence 3 = false ∧ s.drives[2].jog = none ∧ Unwatched (.bell 3) s) ∧
    (let s := (swE [3] dn).onMarks 3 fun m => { m with hour := true }; FiresAlone 5 (entS [3]) s ∧ NoHeads s ∧
      s.bells[3].holder = .clock ∧ s.inSequence 3 = true ∧ (∀ c ∈ s.bells[3].waiting, c.claimant ≠ .swing)) ∧
    (let s := swE [3] (hold dn (.station 1) none); FiresAlone 5 (entS [3]) s ∧ NoHeads s ∧ s.driveOf 3 = some 2 ∧
      s.drives[2].state = .down ∧ s.bells[3].holder = .station 1) ∧
    (let s := swE [3] (hold dn .swing none); FiresAlone 5 (entS [3]) s ∧ NoHeads s ∧ s.driveOf 3 = some 2 ∧
      s.drives[2].state = .down ∧ s.bells[3].holder = .swing) := by
  and_intros <;> decide +kernel

/-- R127, R128: a SWING entry of 7 min firing at 12:35:00 standard: the drive of a bell at rest goes to LIFT for the
entry, its stop time 12:42:00. -/
theorem test_swing_entry :
    let s := swE [3] dn
    let t := nextOf (exec .minuteEvent s)
    t.bells[3].holder = .swing ∧ t.drives[2].state = .lift ∧ t.drives[2].source = .schedule 5 ∧
      t.drives[2].stopTime = some (s.now + 420000) := by
  and_intros <;> decide +kernel

def calm (s : State) : State := { s with plan := { s.plan with hourStrike := false } }
def badRule : DstRule := { factoryRule with startMonth := 13 }
def rule30 : DstRule := { factoryRule with offset := 44 }
def later : DstRule := { factoryRule with offset := 120 }
def entM : Entry := ⟨true, .station 0, .time 850, 127#7, none, none, .toll 2 4 5, none⟩

theorem witness_RuleWriteReplacesTheRule_moves :
    (Ready h0 timed ∧ timed.rights[h0.station].time = true ∧ ruleIdentitiesOk badRule = false) ∧
    (Ready h0 timed ∧ ruleIdentitiesOk factoryRule = true ∧
      (nextOf (exec (.dstRuleWrite h0 factoryRule) timed)).tb.offset = timed.tb.offset ∧
      PlanSteady { timed with tb := (nextOf (exec (.dstRuleWrite h0 factoryRule) timed)).tb }) ∧
    (let s := calm timed; let t := nextOf (exec (.dstRuleWrite h0 rule30) s); Ready h0 s ∧
      ruleIdentitiesOk rule30 = true ∧ t.tb.offset ≠ s.tb.offset ∧ s.links[(1 : Station)].enabled = true ∧
      (∀ (n : Station) (i : Fin 4), s.watches[n][i] = none) ∧ Unscheduled s ∧ s.hour.state = .idle ∧
      s.plan.hourStrike = false ∧ s.plan.slot00 = none ∧ s.plan.slot15 = none ∧ s.plan.slot30 = none ∧
      s.plan.slot45 = none ∧ PlanSteady { s with tb := t.tb }) ∧
    (let s := timed.setEntry 5 (some entM); let t := nextOf (exec (.dstRuleWrite h0 later) s); Ready h0 s ∧
      ruleIdentitiesOk later = true ∧ t.tb.offset ≠ s.tb.offset ∧ s.tb.validity ≠ .unset ∧ s.entries[5] = some entM ∧
      (∀ i : EntryNo, i ≠ 5 → s.entries[i] = none) ∧ ClockInRange s.tb ∧ t.tb.loc.date = s.localLeft.date ∧
      s.localLeft.minute < 850 ∧ 850 < t.tb.loc.minute ∧ entM.enabled = true ∧ entM.applies t.tb.loc.date = true ∧
      entM.unfired t.tb.loc.date = true) := by
  and_intros <;> decide +kernel

/-- A minute event that is due in a valid time, with nothing scheduled or queued and the flood plan steady. -/
abbrev MinuteDue (s : State) : Prop :=
  s.minuteDue = true ∧ s.tb.validity ≠ .unset ∧ PlanSteady { s with tb := s.tb.redecide.see } ∧ s.player.queue = [] ∧
    Unscheduled s
/-- The state as the minute event finds it. -/
def seen (s : State) : State := { s with tb := s.tb.redecide.see, player := { s.player with failing := none } }

theorem witness_MinuteAndSummerEvents_quiet :
    (let s := atSec 47700 (quietAll timed); MinuteDue s ∧ (seen s).tb.loc.minute % 60 = quarterMinute .q15 ∧
      (s.plan.slotOf .q15 = none ∨ (seen s).silenced .quarters = true)) ∧
    (let s := atSec 46800 { timed with windows := put timed.windows 0 ⟨true, 0, 0, 127#7, false, true, false⟩ };
      MinuteDue s ∧ (seen s).tb.loc.minute % 60 = 0 ∧ s.hour.state = .idle ∧
      (s.plan.slot00 = none ∨ (seen s).silenced .quarters = true) ∧ s.plan.hourStrike = true ∧
      (seen s).silenced .hours = false ∧ ClockBlowWaits 3 (seen s)) := by
  and_intros <;> decide +kernel

end Quarters

end Sys2Proof.Tests
end

section
/-! The calendar of R8: the laws of its functions, each proved once, and the statement assembled from them. -/

namespace Sys2Proof.Machine

/-! ### Years and months -/

theorem leapYear_iff (y : Nat) : leapYear y = true ↔ 4 ∣ y := by
  rw [leapYear, beq_iff_eq, Nat.dvd_iff_mod_eq_zero]

/-- Every fourth year from 2000, itself a leap year, is one: the closed form that `dayCount` uses. -/
theorem length_filter_leapYear (n : Nat) :
    ((List.range n).filter fun k => leapYear (2000 + k)).length = (n + 3) / 4 := by
  induction n with
  | zero => rfl
  | succ n ih =>
    rw [List.range_succ, List.filter_append, List.length_append, ih]
    by_cases hn : leapYear (2000 + n) = true
    · have := (leapYear_iff _).mp hn
      rw [List.filter_cons, if_pos hn, List.filter_nil, List.length_singleton]
      omega
    · have := mt (leapYear_iff _).mpr hn
      rw [List.filter_cons, if_neg hn, List.filter_nil, List.length_nil]
      omega

theorem monthLength_table (y : Nat) :
    (List.range 12).map (fun i => monthLength y (i + 1)) =
      [31, if leapYear y then 29 else 28, 31, 30, 31, 30, 31, 31, 30, 31, 30, 31] := rfl

theorem monthLength_ge (y m : Nat) : 28 ≤ monthLength y m := by
  unfold monthLength
  split
  · split <;> decide
  all_goals decide

/-- The days before a month are those of the whole months before it. -/
theorem daysBefore_succ (y m : Nat) :
    daysBefore y (m + 1) = ((List.range m).map fun k => monthLength y (k + 1)).sum := by
  induction m with
  | zero => rfl
  | succ m ih =>
    have hstep : daysBefore y (m + 2) = daysBefore y (m + 1) + monthLength y (m + 1) := rfl
    rw [hstep, ih, List.range_succ, List.map_append, List.sum_append, List.map_singleton, List.sum_singleton]

/-! ### Day count and weekday -/

theorem dayCount_eq {d : Date} (hy : 2000 ≤ d.year) (hm : 1 ≤ d.month) :
    dayCount d = 365 * (d.year - 2000 : Nat) +
      (((List.range (d.year - 2000)).filter fun k => leapYear (2000 + k)).length : Int) +
      (((List.range (d.month - 1)).map fun k => monthLength d.year (k + 1)).sum : Int) + (d.day : Int) - 1 := by
  have hdays := daysBefore_succ d.year (d.month - 1)
  rw [Nat.sub_add_cancel hm] at hdays
  rw [length_filter_leapYear, ← hdays, dayCount]
  omega

theorem cast_weekday (d : Date) : (weekday d : Int) = (6 + dayCount d) % 7 :=
  Int.toNat_of_nonneg (Int.emod_nonneg _ (by decide))

theorem weekday_lt (d : Date) : weekday d < 7 := by
  have := cast_weekday d
  omega

/-- Within a month the weekday goes on by one a day. -/
theorem weekday_add (y m a b : Nat) : weekday ⟨y, m, a + b⟩ = (weekday ⟨y, m, a⟩ + b) % 7 := by
  have hcount : dayCount ⟨y, m, a + b⟩ = dayCount ⟨y, m, a⟩ + b := by
    simp only [dayCount]
    omega
  have hto := cast_weekday ⟨y, m, a + b⟩
  have hfrom := cast_weekday ⟨y, m, a⟩
  omega

/-! ### Occurrences of a weekday -/

/-- An occurrence 1 … 4 lies in its week of the month, and falls on its weekday. -/
theorem occurrenceDay_nth (y m : Nat) {n w : Nat} (hn : 1 ≤ n) (hw : w ≤ 6) :
    weekday ⟨y, m, occurrenceDay y m (.nth n) w⟩ = w ∧ 7 * n < occurrenceDay y m (.nth n) w + 7 ∧
      occurrenceDay y m (.nth n) w ≤ 7 * n := by
  have hfirst := weekday_lt ⟨y, m, 1⟩
  simp only [occurrenceDay, Nat.add_assoc 1, weekday_add y m 1]
  omega

/-- LAST lies in the last seven days of the month, and falls on its weekday. -/
theorem occurrenceDay_last (y m : Nat) {w : Nat} (hw : w ≤ 6) :
    weekday ⟨y, m, occurrenceDay y m .last w⟩ = w ∧ occurrenceDay y m .last w ≤ monthLength y m ∧
      monthLength y m < occurrenceDay y m .last w + 7 := by
  have hlength := monthLength_ge y m
  have hlast := weekday_lt ⟨y, m, monthLength y m⟩
  have hx : occurrenceDay y m .last w = monthLength y m - (weekday ⟨y, m, monthLength y m⟩ + 7 - w) % 7 := rfl
  -- from the day found, the days up to the end of the month lead to the last day's weekday
  have hstep := weekday_add y m (occurrenceDay y m .last w) ((weekday ⟨y, m, monthLength y m⟩ + 7 - w) % 7)
  rw [show occurrenceDay y m .last w + (weekday ⟨y, m, monthLength y m⟩ + 7 - w) % 7 = monthLength y m by omega]
    at hstep
  have hday := weekday_lt ⟨y, m, occurrenceDay y m .last w⟩
  omega

/-! ### The interpolation of R174 -/

/-- From the 16th on, the step is over the days left in the month. -/
theorem interpolate_second_half (a b : Nat) {d : Date} (hd : 16 ≤ d.day) :
    interpolate a b d = a + (2 * ((b : Int) - a) * ((d.day : Int) - 16) + ((monthLength d.year d.month : Int) - 15)) /
      (2 * ((monthLength d.year d.month : Int) - 15)) := by
  simp only [interpolate, if_pos hd]

/-- Settles O10: each clause by the law of its function. -/
theorem calendarOfTheCentury : Obligations.CalendarOfTheCentury := by
  refine ⟨leapYear_iff, monthLength_table, fun d hy hm _ => ⟨dayCount_eq hy hm, cast_weekday d⟩, by decide,
    fun y m n w _ _ _ hn hn4 hw => ?_, fun y m w _ _ _ hw => ?_, fun a b d hd => interpolate_second_half a b hd⟩
  · obtain ⟨hday, hlo, hhi⟩ := occurrenceDay_nth y m hn hw
    exact ⟨rfl, hday, hlo, hhi, by omega⟩
  · exact ⟨rfl, occurrenceDay_last y m hw⟩

end Sys2Proof.Machine
end

section
/-! The times of R103: what the rounding of a step time and the play time of a slot come to, and what TUNE READ shows
of them (R108). -/

namespace Sys2Proof.Machine

/-! ### Step times and play times -/

/-- R103: the nearest ms, halves up: the step time exceeds length × 7500 / tempo by at most half a ms, and falls short
of it by less. -/
theorem stepTime_nearest {tempo : Nat} (length : Nat) (ht : 1 ≤ tempo) :
    2 * (stepTime tempo length * tempo) ≤ 2 * (length * 7500) + tempo ∧
      2 * (length * 7500) + tempo < 2 * (stepTime tempo length * tempo) + 2 * tempo := by
  have hle : 2 * tempo * stepTime tempo length ≤ 2 * length * 7500 + tempo := Nat.mul_div_le _ _
  have hlt : 2 * length * 7500 + tempo < 2 * tempo * (stepTime tempo length + 1) :=
    Nat.lt_mul_div_succ _ (by omega)
  have hcomm : 2 * tempo * stepTime tempo length = 2 * (stepTime tempo length * tempo) := by
    rw [Nat.mul_assoc, Nat.mul_comm tempo]
  rw [Nat.mul_add, Nat.mul_one] at hlt
  omega

/-- R103: one repeat has no gap. -/
theorem Slot.playTime_one (x : Slot) : x.playTime 1 = x.repeatTime := by
  rw [Slot.playTime, Nat.sub_self, Nat.zero_mul, Nat.add_zero, Nat.one_mul]

/-- R103: the time of a repeat depends on the tempo and on the lengths of the written steps alone. -/
theorem Slot.repeatTime_eq (x : Slot) :
    x.repeatTime = ((x.written.map TuneStep.length).map (stepTime x.tempo)).sum := by
  rw [List.map_map]
  rfl

/-- R103: a repeat of steps of one length is that step time, rounded once, as often as there are steps. -/
theorem Slot.repeatTime_uniform {x : Slot} {n length : Nat}
    (h : x.written.map TuneStep.length = List.replicate n length) :
    x.repeatTime = n * stepTime x.tempo length := by
  rw [x.repeatTime_eq, h, List.map_replicate, List.sum_replicate_nat]

/-! ### TUNE READ (R108) -/

theorem exec_tuneRead (h : Head) (slot offset : Nat) (s : State) :
    exec (.tuneRead h slot offset) s = .next (arrive h (.tuneRead slot offset) s) := rfl

/-- R102: a READY slot reserves the steps it holds. -/
theorem Slot.reserved_ready {x : Slot} (h : x.state = .ready) : x.reserved = x.count := by
  rw [Slot.reserved, h]

/-- R103, R108: a READY slot shows the play time for one repeat. -/
theorem Slot.readyView_ready {x : Slot} (h : x.state = .ready) : x.readyView = some (x.bellSet, x.playTime 1) := by
  rw [Slot.readyView, if_pos h, x.playTime_one]

/-- R108: a READY slot shows nothing of a loading. -/
theorem Slot.loadingView_ready {x : Slot} (h : x.state = .ready) (timer : Nat) : x.loadingView timer = none := by
  rw [Slot.loadingView, h, if_neg (by decide)]

/-- R108: TUNE READ of a READY slot, from an offset within its steps. -/
theorem takeTuneRead_ready {s : State} {i : SlotNo} (ready : s.slots[i].state = .ready) {offset : Nat}
    (inside : offset < s.slots[i].count) :
    takeTuneRead i.val offset s =
      readout
        (.tuneRead .ready s.slots[i].name s.slots[i].tempo s.slots[i].count s.slots[i].count s.slots[i].loader
          (some (s.slots[i].bellSet, s.slots[i].playTime 1)) none ((s.slots[i].steps.drop offset).take 16)) s := by
  have filled : s.slots[i].state ≠ .empty := by
    rw [ready]
    decide
  rw [takeTuneRead, withId_some i.val s _ (ident0_val i)]
  dsimp only
  rw [if_neg filled, if_neg (Nat.not_le.mpr inside), Slot.reserved_ready ready, Slot.readyView_ready ready,
    Slot.loadingView_ready ready, ready]

/-- Settles O33: the rounding and the play time by their laws, TUNE READ through its READY case. -/
theorem stepAndPlayTimes : Obligations.StepAndPlayTimes := by
  refine ⟨fun _ length ht => stepTime_nearest length ht, fun _ ht => stepTime_nearest 8 ht, fun _ _ _ => rfl,
    fun h i n s link ready inside => ?_, fun x htempo hlengths => ?_, by decide⟩
  · have read : handle h (.tuneRead i.val n) (owed h s) = unchanged _ (owed h s) :=
      takeTuneRead_ready (s := owed h s) ready inside
    rw [exec_tuneRead, arrive_unchanged link read]
    rfl
  · rw [x.playTime_one, Slot.repeatTime_uniform hlengths, htempo]
    rfl

end Sys2Proof.Machine
end

section
/-! The dates of R153: the order of month-days that a date window goes by, and when an entry applies and can fire. -/

namespace Sys2Proof

/-! ### Month-days in order (R148) -/

/-- R148: `a` is not later in the year than `b`. -/
def MonthDay.UpTo (a b : MonthDay) : Prop := a.month < b.month ∨ (a.month = b.month ∧ a.day ≤ b.day)

/-- The month-day of a date. -/
def Date.monthDay (d : Date) : MonthDay := ⟨d.month, d.day⟩

namespace Machine

/-- The one number for a month-day keeps the order, for days that a month can have. -/
theorem monthDayKey_le_iff {a b : MonthDay} (ha : a.day ≤ 31) (hb : b.day ≤ 31) :
    monthDayKey a ≤ monthDayKey b ↔ a.UpTo b := by
  simp only [monthDayKey, MonthDay.UpTo]
  omega

/-! ### Date windows (R153) -/

theorem inWindow_none (d : Date) : inWindow none d = true := rfl

section
variable {a b : MonthDay} {d : Date} (ha : a.day ≤ 31) (hb : b.day ≤ 31) (hd : d.day ≤ 31)
include ha hb hd

/-- R153: a window within a year holds what lies between its ends. -/
theorem inWindow_of_upTo (hab : a.UpTo b) :
    inWindow (some (a, b)) d = true ↔ a.UpTo d.monthDay ∧ d.monthDay.UpTo b := by
  rw [← monthDayKey_le_iff ha hd, ← monthDayKey_le_iff hd hb]
  simp only [inWindow, if_pos ((monthDayKey_le_iff ha hb).mpr hab), Bool.and_eq_true, decide_eq_true_eq]
  rfl

/-- R153: a window over the turn of the year holds what lies from its start on or up to its end. -/
theorem inWindow_of_not_upTo (hab : ¬a.UpTo b) :
    inWindow (some (a, b)) d = true ↔ a.UpTo d.monthDay ∨ d.monthDay.UpTo b := by
  rw [← monthDayKey_le_iff ha hd, ← monthDayKey_le_iff hd hb]
  simp only [inWindow, if_neg (mt (monthDayKey_le_iff ha hb).mp hab), Bool.or_eq_true, decide_eq_true_eq]
  rfl

end

/-- R153: a window that ends on 02-29 holds 02-28 and not 03-01, in a common year too. -/
theorem inWindow_to_leapDay (y : Nat) {a : MonthDay} (ha : a.UpTo ⟨2, 28⟩) (hday : a.day ≤ 31) :
    inWindow (some (a, ⟨2, 29⟩)) ⟨y, 2, 28⟩ = true ∧ inWindow (some (a, ⟨2, 29⟩)) ⟨y, 3, 1⟩ = false := by
  have hends : a.UpTo ⟨2, 29⟩ := by
    simp only [MonthDay.UpTo] at ha ⊢
    omega
  have holds {d : Date} (hd : d.day ≤ 31) := inWindow_of_upTo hday (by decide) hd hends
  refine ⟨(holds (by simp)).mpr ⟨ha, .inr ⟨rfl, by simp [Date.monthDay]⟩⟩, Bool.eq_false_iff.mpr fun held => ?_⟩
  have late := ((holds (by simp)).mp held).2
  simp [MonthDay.UpTo, Date.monthDay] at late

/-- R153: a window that starts on 02-29 holds 03-01 and not 02-28, in a common year too. -/
theorem inWindow_from_leapDay (y : Nat) {b : MonthDay} (hb : MonthDay.UpTo ⟨3, 1⟩ b) (hday : b.day ≤ 31) :
    inWindow (some (⟨2, 29⟩, b)) ⟨y, 3, 1⟩ = true ∧ inWindow (some (⟨2, 29⟩, b)) ⟨y, 2, 28⟩ = false := by
  have hends : MonthDay.UpTo ⟨2, 29⟩ b := by
    simp only [MonthDay.UpTo] at hb ⊢
    omega
  have holds {d : Date} (hd : d.day ≤ 31) := inWindow_of_upTo (by decide) hday hd hends
  refine ⟨(holds (by simp)).mpr ⟨.inl (by simp [Date.monthDay]), hb⟩, Bool.eq_false_iff.mpr fun held => ?_⟩
  have early := ((holds (by simp)).mp held).1
  simp [MonthDay.UpTo, Date.monthDay] at early

/-! ### When an entry applies, and when it can fire (R153, R154) -/

/-- R153: an entry with a one-shot date goes by that date alone. -/
theorem Entry.applies_oneShot {e : Entry} {o : Date} (h : e.oneShot = some o) (d : Date) :
    e.applies d = true ↔ o = d := by
  rw [Entry.applies, h]
  exact beq_iff_eq

/-- R153: an entry without a one-shot date goes by its days and its window. -/
theorem Entry.applies_recurring {e : Entry} (h : e.oneShot = none) (d : Date) :
    e.applies d = true ↔ e.days.getLsbD (weekday d) = true ∧ inWindow e.window d = true := by
  rw [Entry.applies, h]
  exact Bool.and_eq_true_iff

/-- R153: an empty days mask leaves a recurring entry no date. -/
theorem Entry.applies_noDays {e : Entry} (h : e.oneShot = none) (hdays : e.days = 0) (d : Date) :
    e.applies d = false := by
  rw [← Bool.not_eq_true, Entry.applies_recurring h, hdays]
  simp

/-- R154: an entry fires on a date it applies on. -/
theorem State.applies_of_fires {s : State} {e : Entry} {d : Date} {m : Nat} (h : s.fires e d m = true) :
    e.applies d = true := by
  simp only [State.fires, Bool.and_eq_true] at h
  obtain ⟨⟨_, applies⟩, _⟩ := h
  exact applies

/-- Settles O46: the one-shot date, the days and the window by the law of each; a window's ends through the order of
month-days. -/
theorem entryAppliesOnItsDates : Obligations.EntryAppliesOnItsDates := by
  intro e d hd
  refine ⟨fun o one => Entry.applies_oneShot one d, fun recurring always => ?always,
    fun a b recurring window ha hb => ⟨fun hab => ?within, fun hab => ?overTurn⟩,
    fun recurring empty => ⟨Entry.applies_noDays recurring empty d, fun s m => ?fires⟩,
    fun y => ⟨fun a ha hday => inWindow_to_leapDay y ha hday, fun b hmonth hlow hday =>
      inWindow_from_leapDay y ?march hday⟩⟩
  case always => rw [Entry.applies_recurring recurring, always, inWindow_none, and_iff_left rfl]
  case within =>
    rw [Entry.applies_recurring recurring, window, inWindow_of_upTo ha hb hd hab]
    rfl
  case overTurn =>
    rw [Entry.applies_recurring recurring, window, inWindow_of_not_upTo ha hb hd hab]
    rfl
  case fires =>
    have never := Entry.applies_noDays recurring empty d
    exact Bool.eq_false_iff.mpr fun fires => Bool.eq_false_iff.mp never (State.applies_of_fires fires)
  case march =>
    simp only [MonthDay.UpTo]
    omega

end Machine
end Sys2Proof
end
